-- ==== Sys2Proof/Word.lean ====
section
/-! DEFINITION. The word types of the block (00_scope.md R15, R16): unsigned values of 8, 16 and 32 bits. Addresses, cycle
counts and sample indices are natural numbers, as R15 has them. -/

namespace Sys2Proof

/-- `u8` of R15: a port number, a port register, a memory byte, the accumulator. -/
abbrev Byte := BitVec 8

/-- `u16` of R15: the shift register's data. -/
abbrev HalfWord := BitVec 16

/-- One packed 32-bit colour pixel (10_state.md R41, 44_video_decoder.md R187). -/
abbrev Pixel := BitVec 32

end Sys2Proof
end

