-- ==== Sys2Proof/Config.lean ====
section
/-! DEFINITION. What an implementation fixes (the parameters of 00_scope.md R9 to R13) and the free values (what the host
answers: 60_exceptions.md R244). The parameters are ONE record, `Params`: the machine state carries it and no step changes
it, so that a statement about every state is a statement about every parameter value (log entry 1). A free value is a
constant with no body: nothing in Lean can compute it. -/

namespace Sys2Proof

/-- A physical key of the keyboard-state source, by number (45_input_mapper.md R200; the source names no key). -/
abbrev Key := Nat

/-- The target of a binding: `port ∈ {1, 2}` of R13, the byte `switch1` or `switch2`. -/
inductive SwitchPort where
  | port1
  | port2
deriving DecidableEq, Repr, Inhabited

/-- One entry `(key, port, b)` of `P_BINDINGS` (R200): `b` is in 0..7. -/
structure Binding where
  key  : Key
  port : SwitchPort
  bit  : Fin 8
deriving DecidableEq, Repr, Inhabited

/-- One decoded audio buffer of the sample bank. The block never looks into it (10_state.md R42). -/
abbrev Sample := List Byte

/-- H of R12, "256, fixed": the height of the portrait output, the width of the native raster. -/
def outH : Nat := 256

/-- The parameters of the block, R9 (CPU interface), R10 (frame scheduler), R11 (memory store), R12 (video decoder) and
R13 (input side and reset state), each named as there. -/
structure Params where
  /-- `P_OPC_IN` -/
  opcIn : Byte
  /-- `P_OPC_OUT` -/
  opcOut : Byte
  /-- `P_ADDR_BITS` -/
  addrBits : Nat
  /-- `P_FRAME_CYCLES`, the per-frame cycle budget B -/
  frameCycles : Nat
  /-- `P_VEC_FIRST` -/
  vecFirst : Nat
  /-- `P_VEC_SECOND` -/
  vecSecond : Nat
  /-- `P_MEM_SIZE` -/
  memSize : Nat
  /-- `P_IMAGE`, the fixed binary image loaded at address 0 at power-up -/
  image : List Byte
  /-- `P_MEM_INIT`, a draw (R11): byte `k` is the content at power-up of address `k` where the image does not cover it.
  Past the list's end it is 0x00, so that lists of up to `memSize` bytes give every content (log entry 10) -/
  memInit : List Byte
  /-- `P_OUT_W`, W: the number of 32-byte columns of the window, the width of the portrait output -/
  outW : Nat
  /-- `P_VRAM_BASE` -/
  vramBase : Nat
  /-- `P_GREEN_X_HI` -/
  greenXHi : Nat
  /-- `P_EDGE_X_HI` -/
  edgeXHi : Nat
  /-- `P_EDGE_Y_LO` -/
  edgeYLo : Nat
  /-- `P_EDGE_Y_HI` -/
  edgeYHi : Nat
  /-- `P_RED_X_LO` -/
  redXLo : Nat
  /-- `P_RED_X_HI` -/
  redXHi : Nat
  /-- `P_RGB_BLACK` -/
  rgbBlack : Pixel
  /-- `P_RGB_GREEN` -/
  rgbGreen : Pixel
  /-- `P_RGB_RED` -/
  rgbRed : Pixel
  /-- `P_RGB_WHITE` -/
  rgbWhite : Pixel
  /-- `P_BINDINGS`, in list order -/
  bindings : List Binding
  /-- `P_EXIT_KEY` -/
  exitKey : Key
  /-- `P_SW0_INIT` -/
  sw0Init : Byte
  /-- `P_SW1_INIT` -/
  sw1Init : Byte
  /-- `P_SW2_INIT` -/
  sw2Init : Byte
  /-- `P_SAMPLES`, the bank of 10 buffers, indexed 0..9 (R42, 90_conflicts.md C10) -/
  samples : Vector Sample 10
deriving DecidableEq, Repr

/-- `HALF = B div 2` (R10). -/
def Params.half (p : Params) : Nat := p.frameCycles / 2

/-- `VRAM_SIZE = W * H / 8 = W * 32` (R12). -/
def Params.vramSize (p : Params) : Nat := p.outW * 32

/-- The constraints R9 to R13 put on the parameters (the ranges of a binding's port and bit, and the ten samples, are in
their types), R206 with 92_eei_decisions.md D16: the exit key is outside `P_BINDINGS`, and 20_memory.md R60 and R64: the decode
forms no address of more than P_ADDR_BITS bits (log entry 26). -/
structure Params.wf (p : Params) : Prop where
  opcodes_differ : p.opcIn ≠ p.opcOut
  addr_fits      : 2 ^ p.addrBits ≤ p.memSize
  mem_size       : 65536 ≤ p.memSize
  image_fits     : p.image.length ≤ p.memSize
  init_fits      : p.memInit.length ≤ p.memSize
  window_fits    : p.vramBase + p.vramSize ≤ p.memSize
  window_formed  : p.vramBase + p.vramSize ≤ 2 ^ p.addrBits
  edge_in_green  : p.edgeXHi ≤ p.greenXHi
  green_then_red : p.greenXHi < p.redXLo
  red_order      : p.redXLo ≤ p.redXHi
  red_in_frame   : p.redXHi ≤ outH - 1
  edge_order     : p.edgeYLo ≤ p.edgeYHi
  edge_in_frame  : p.edgeYHi + 1 ≤ p.outW
  exit_unbound   : ∀ e ∈ p.bindings, e.key ≠ p.exitKey

/-- What the CPU engine sees when it is called (R19, R244): the registers the block shares with it, whether it is halted,
the rest of its own state (an uninterpreted number, log entry 4) and the memory store. -/
structure CpuView where
  a      : Byte
  pc     : Nat
  halted : Bool
  rest   : Nat
  mem    : List Host.Cell
deriving DecidableEq, Repr

/-- What the CPU engine does in one call of `step()` or `injectInterrupt(v)` (R7, R244): the accumulator, the program
counter, the halt state and the rest of its state afterwards, the bytes it writes, in order, and the cycles it reports. -/
structure CpuAnswer where
  a      : Byte
  pc     : Nat
  halted : Bool
  rest   : Nat
  writes : List (Nat × Byte)
  cycles : Nat
deriving DecidableEq, Repr, Inhabited

/-- FREE VALUE: the CPU engine's answer to its call of `step()` number `draw` (40_frame_scheduler.md R110: "an input of the
step drawn from the CPU engine: a model admits every natural number"; log entry 3). -/
opaque Config.cpuStep (draw : Nat) (v : CpuView) : CpuAnswer

/-- FREE VALUE: the CPU engine's answer to `injectInterrupt(vector)` (60_exceptions.md R228; log entry 6). -/
opaque Config.cpuInject (draw : Nat) (vector : Nat) (v : CpuView) : CpuAnswer

/-- FREE VALUE: the surface's answer to `isKeyDown(key)` at the poll number `draw` (45_input_mapper.md R203; log entry 8). -/
opaque Config.keyDown (draw : Nat) (key : Key) : Bool

/-- FREE VALUE: the surface's answer to `isOpen()` at the poll number `draw` (40_frame_scheduler.md R107; log entry 8). -/
opaque Config.surfaceOpen (draw : Nat) : Bool

/-- FREE VALUE: `P_BINDINGS` of the machine that `State.reset` powers up (R13: OPEN, no reference list; log entry 9). -/
opaque Config.openBindings : List Binding

/-- FREE VALUE: `P_EXIT_KEY` of the machine that `State.reset` powers up (R13: OPEN; log entry 9). -/
opaque Config.openExitKey : Key

/-- FREE VALUE: `P_SAMPLES` of the machine that `State.reset` powers up (R13: "input of the model (opaque)"; log entry 9). -/
opaque Config.openSamples : Vector Sample 10

end Sys2Proof
end

