-- ==== Sys2Proof/Machine/Reference.lean ====
section
/-! DEFINITION. The reference values of the parameters (00_scope.md R9 to R13; log entry 2): the machine that `State.reset`
powers up. The parameters the spec leaves OPEN without a reference (bindings, exit key, samples) are free values, and the
program image is empty: a program is loaded from outside (log entry 20). An empty `memInit` is R11's reference, all 0x00. -/

namespace Sys2Proof.Machine

/-- `P_BINDINGS` with no reference list: any list of bindings that leaves the exit key out (R13, R206). -/
def referenceBindings : List Binding :=
  Config.openBindings.filter fun e => decide (e.key ≠ Config.openExitKey)

/-- The reference value of each parameter, from the tables of R9 to R13. -/
def referenceParams : Params where
  opcIn       := 0xDB
  opcOut      := 0xD3
  addrBits    := 16
  frameCycles := 33333
  vecFirst    := 0x0008
  vecSecond   := 0x0010
  memSize     := 65536
  image       := []
  memInit     := []
  outW        := 224
  vramBase    := 0x2400
  greenXHi    := 63
  edgeXHi     := 15
  edgeYLo     := 16
  edgeYHi     := 133
  redXLo      := 204
  redXHi      := 223
  rgbBlack    := 0x000000
  rgbGreen    := 0x00FF00
  rgbRed      := 0xFF0000
  rgbWhite    := 0xFFFFFF
  bindings    := referenceBindings
  exitKey     := Config.openExitKey
  sw0Init     := 0x00
  sw1Init     := 0x00
  sw2Init     := 0x00
  samples     := Config.openSamples

end Sys2Proof.Machine
end

