-- ==== Sys2Proof/Machine/State.lean ====
section
/-! DEFINITION. The machine state (10_state.md): the register file PortState (R30), the block's other state (R40 to R45), the
CPU registers and the memory store the block touches (R47, R48), the parameters (R46) and the model's own counter of host
answers. The last part gives the reasons a step can stop. Everything is plain data. -/

namespace Sys2Proof.Machine

/-- The memory store: `(address, byte)` entries in canonical form (see `Memory.wf`). -/
abbrev Memory := List Host.Cell

/-- What an address with no entry reads as. It says how a store is written down, not what power-up leaves in it: that is
`P_MEM_INIT`, a parameter (00_scope.md R11; log entry 10). -/
def unlisted : Byte := 0x00

/-- The canonical form: addresses strictly rising, and no entry equal to what an unlisted address reads as. -/
abbrev Memory.wf (m : Memory) : Prop :=
  m.Pairwise (fun x y => x.1 < y.1) ∧ ∀ c ∈ m, c.2 ≠ unlisted

/-- InterruptCursor (R40). -/
inductive Cursor where
  | first
  | second
deriving DecidableEq, Repr

/-- The scheduler's phase (R43, 40_frame_scheduler.md R101). -/
inductive Phase where
  | burst1
  | deliver
  | burst2
  | decode
  | poll
deriving DecidableEq, Repr

/-- One pixel of the framebuffer, four-valued (R41; 44_video_decoder.md R187 lets a model keep it so; log entry 15). -/
inductive Colour where
  | black
  | green
  | red
  | white
deriving DecidableEq, Repr

/-- The two fatal faults, each with the info it records (60_exceptions.md R221). -/
inductive FatalInfo where
  /-- `FatalPortRead`: an IN from a port outside 0..3. -/
  | portRead (port : Byte) (pc : Nat)
  /-- `FatalPortWrite`: an OUT to a port outside 2..7. -/
  | portWrite (port : Byte) (pc : Nat) (value : Byte)
deriving DecidableEq, Repr

/-- The run status (R44). -/
inductive RunStatus where
  | running
  | exited (code : Nat)
  | faulted (info : FatalInfo)
deriving DecidableEq, Repr

/-- The events of the trace (00_scope.md R8). `publish` carries the packed pixels, row-major. -/
inductive Event where
  | play (sample : Nat)
  | inject (vector : Nat)
  | publish (pixels : List Pixel)
  | exit (code : Nat)
  | fatal (code : Nat) (info : FatalInfo)
deriving DecidableEq, Repr

structure State where
  /-- PortState (R30) -/
  switch0 : Byte
  switch1 : Byte
  switch2 : Byte
  /-- bits 7:3 are hardwired 0 (R33) -/
  shiftAmount : Byte
  /-- bits 15:8 the newest byte written, bits 7:0 the one before (R34) -/
  shiftData : HalfWord
  /-- the cache of the last IN 3 (R35) -/
  shiftOut : Byte
  soundLatch1 : Byte
  soundLatch2 : Byte
  watchdog : Byte
  /-- InterruptCursor (R40) -/
  cursor : Cursor
  /-- pixel `(ox, oy)` is element `oy * W + ox` (R41) -/
  framebuffer : List Colour
  /-- the scheduler's phase and frame cycle accumulator (R43) -/
  phase : Phase
  cyc : Nat
  status : RunStatus
  /-- oldest event first (R45) -/
  trace : List Event
  /-- the CPU's accumulator A and program counter (R47) -/
  a : Byte
  pc : Nat
  /-- the CPU engine is halted: its `step()` does not execute the instruction at `pc` (70_reset_and_hazards.md R259) -/
  cpuHalted : Bool
  /-- the rest of the CPU engine's state (other registers, flags, interrupt enable), uninterpreted (R47; log entry 4) -/
  cpuRest : Nat
  mem : Memory
  /-- the parameters, fixed for the machine (R46; log entry 1) -/
  params : Params
  /-- the model's own: how many answers of the host have been drawn so far (log entry 7) -/
  draws : Nat
deriving DecidableEq, Repr

/-- Bytes at addresses `base` and up, in canonical form: a byte equal to what an unlisted address reads as gets no entry. -/
def imageCells (base : Nat) (image : List Byte) : Memory :=
  match image with
  | [] => []
  | b :: bs => if b = unlisted then imageCells (base + 1) bs else (base, b) :: imageCells (base + 1) bs

/-- The store's bytes at power-up (70_reset_and_hazards.md R250 step 1): `P_IMAGE` from address 0, `P_MEM_INIT` wherever the
image does not reach. -/
def initialBytes (p : Params) : List Byte := p.image ++ p.memInit.drop p.image.length

/-- The state at power-up of a machine with parameters `p` (R50, R250). The CPU engine's reset state is outside the spec:
the values of `a`, `pc`, `cpuHalted` and `cpuRest` are the model's (log entry 11). -/
def State.powerUp (p : Params) : State where
  switch0     := p.sw0Init
  switch1     := p.sw1Init
  switch2     := p.sw2Init
  shiftAmount := 0
  shiftData   := 0
  shiftOut    := 0
  soundLatch1 := 0
  soundLatch2 := 0
  watchdog    := 0
  cursor      := .first
  framebuffer := List.replicate (p.outW * outH) .black
  phase       := .burst1
  cyc         := 0
  status      := .running
  trace       := []
  a           := 0
  pc          := 0
  cpuHalted   := false
  cpuRest     := 0
  mem         := imageCells 0 (initialBytes p)
  params      := p
  draws       := 0

/-- The machine right after reset: power-up with the reference parameters. -/
def State.reset : State := State.powerUp referenceParams

/-- Why the machine has stopped. -/
inductive Fault where
  /-- Raised by the step in a state whose status is `Exited`: terminal, "no rule fires" (R44, 60_exceptions.md R238). Safe: a
  stuck state, as the spec has it. -/
  | runExited (code : Nat)
  /-- Raised by the step in a state whose status is `Faulted`: terminal, never cleared (R44, R238, R239). Safe: a stuck
  state, as the spec has it. -/
  | runFaulted (info : FatalInfo)
deriving DecidableEq, Repr

/-- Why the model gives no answer. -/
inductive Refusal where
  /-- Raised by an arm of `exec` with no meaning yet; no arm is left so. Safe. -/
  | notModelled (mnemonic : String)
deriving DecidableEq, Repr

end Sys2Proof.Machine
end

