-- ==== Sys2Proof/Machine/Ops.lean ====
section
/-! DEFINITION. The named operations every instruction and every phase is written over: the memory store, the event trace,
taking a fatal fault (60_exceptions.md R220) and ending a run (R241; there is no return from either, R229), and the calls of
the CPU engine (R19, R244). -/

namespace Sys2Proof.Machine

/-- `MemRead(addr, 1)` (00_scope.md R18): free of side effects. -/
def Memory.read (m : Memory) (addr : Nat) : Byte :=
  match m with
  | [] => unlisted
  | (b, v) :: rest => if addr = b then v else Memory.read rest addr

/-- `MemWrite(addr, 1, v)`: exists only inside the CPU engine (R18). Keeps the canonical form. -/
def Memory.write (m : Memory) (addr : Nat) (v : Byte) : Memory :=
  match m with
  | [] => if v = unlisted then [] else [(addr, v)]
  | (b, w) :: rest =>
    if addr < b then (if v = unlisted then (b, w) :: rest else (addr, v) :: (b, w) :: rest)
    else if addr = b then (if v = unlisted then rest else (addr, v) :: rest)
    else (b, w) :: Memory.write rest addr v

/-- The writes of one call of the CPU engine, in order. The store has `size` bytes, so an address is taken mod `size`
(20_memory.md R60; log entry 18). -/
def Memory.writeAll (m : Memory) (size : Nat) (writes : List (Nat × Byte)) : Memory :=
  writes.foldl (fun m w => Memory.write m (w.1 % size) w.2) m

/-- An address of P_ADDR_BITS bits (R9, R15). -/
def addrWrap (p : Params) (n : Nat) : Nat := n % 2 ^ p.addrBits

/-- `emit E`: append an event to the trace (R18, 10_state.md R45). -/
def State.emit (s : State) (e : Event) : State := { s with trace := s.trace ++ [e] }

/-- The fault codes of R221. -/
def FatalInfo.code (info : FatalInfo) : Nat :=
  match info with
  | .portRead _ _ => 1
  | .portWrite _ _ _ => 2

/-- `raise`: the status becomes `Faulted(code, info)`, `Fatal(code, info)` is emitted, and everything else stays as it was
(R220). -/
def State.raiseFatal (s : State) (info : FatalInfo) : State :=
  { s with status := .faulted info, trace := s.trace ++ [.fatal info.code info] }

/-- `halt Exit(0)` (R241). -/
def State.exitRun (s : State) : State :=
  { s with status := .exited 0, trace := s.trace ++ [.exit 0] }

/-- What the CPU engine sees of the machine (R244). -/
def State.cpuView (s : State) : CpuView :=
  { a := s.a, pc := s.pc, halted := s.cpuHalted, rest := s.cpuRest, mem := s.mem }

/-- The CPU engine's own dispatch of an intercepted IN or OUT (41_port_bank.md R123): only `pc` moves, past the two bytes,
and `c` cycles are counted (40_frame_scheduler.md R103, R105). The flags, in `cpuRest`, stay (10_state.md R38). -/
def State.portExecuted (s : State) (c : Nat) : State :=
  { s with pc := addrWrap s.params (s.pc + 2), cyc := s.cyc + c, draws := s.draws + 1 }

/-- A `step()` of a halted CPU engine (70_reset_and_hazards.md R259): no instruction executes, so `pc`, A and the memory
store stay; whether the halt goes on, and the cycles, are the engine's (log entry 5). -/
def State.haltedStep (s : State) (ans : CpuAnswer) : State :=
  { s with cpuHalted := ans.halted, cpuRest := ans.rest, cyc := s.cyc + ans.cycles, draws := s.draws + 1 }

/-- A `step()` that executes an instruction of class `Other`: the CPU registers and the memory store become what the engine
answers (R244), the cycles are counted, and no state of the block changes (R242). -/
def State.engineExecuted (s : State) (ans : CpuAnswer) : State :=
  { s with a := ans.a, pc := addrWrap s.params ans.pc, cpuHalted := ans.halted, cpuRest := ans.rest,
           mem := Memory.writeAll s.mem s.params.memSize ans.writes,
           cyc := s.cyc + ans.cycles, draws := s.draws + 1 }

/-- `injectInterrupt(v)` answered: like an executed instruction, but no cycle is counted (40_frame_scheduler.md R104). The
answer's `pc` is where the CPU is when the call returns (R228). -/
def State.engineInjected (s : State) (ans : CpuAnswer) : State :=
  { s with a := ans.a, pc := addrWrap s.params ans.pc, cpuHalted := ans.halted, cpuRest := ans.rest,
           mem := Memory.writeAll s.mem s.params.memSize ans.writes, draws := s.draws + 1 }

/-- `c <- step()` after the intercept of an IN or OUT: it executes the instruction, unless the engine is halted (R259). -/
def State.stepPort (s : State) : State :=
  if s.cpuHalted then s.haltedStep (Config.cpuStep s.draws s.cpuView)
  else s.portExecuted (Config.cpuStep s.draws s.cpuView).cycles

/-- `c <- step()` at an opcode of class `Other`. -/
def State.stepOther (s : State) : State :=
  if s.cpuHalted then s.haltedStep (Config.cpuStep s.draws s.cpuView)
  else s.engineExecuted (Config.cpuStep s.draws s.cpuView)

/-- `inject(v)`: emit `Inject(v)` and call the CPU's `injectInterrupt(v)` (R18, R225). -/
def State.inject (s : State) (v : Nat) : State :=
  (s.emit (.inject v)).engineInjected (Config.cpuInject s.draws v s.cpuView)

end Sys2Proof.Machine
end

