-- ==== Sys2Proof/Machine/Flags.lean ====
section
/-! DEFINITION. Flags: the block has none (10_state.md R38: "The block has no status flags or condition codes"). The CPU's own
flags are part of `State.cpuRest`, which only the CPU engine's answers change: an executed IN or OUT leaves it as it was
(R38, 41_port_bank.md R123; `State.portExecuted`). This file therefore holds one name for them and no computation. -/

namespace Sys2Proof.Machine

/-- The part of the state that holds the CPU's flags, uninterpreted (R38, R47). -/
def State.cpuFlags (s : State) : Nat := s.cpuRest

end Sys2Proof.Machine
end

