-- ==== Sys2Proof/Syntax.lean ====
section
/-! DEFINITION. The instructions the block gives a meaning to (30_encoding.md R81, R85), one constructor for each row of
spec/opcode_table.json. A row that stands for several port numbers carries the port it was decoded from. Every other
opcode is class `Other`: no instruction of the block (R80). -/

namespace Sys2Proof

/-- The class of the byte at the program counter (R80). -/
inductive OpClass where
  | input
  | output
  | other
deriving DecidableEq, Repr

/-- The intercepted instructions, in the opcode table's order. -/
inductive Instr where
  | in0
  | in1
  | in2
  | in3
  | inIllegal4to7 (port : Byte)
  | inIllegal8to15 (port : Byte)
  | inIllegal16to31 (port : Byte)
  | inIllegal32to63 (port : Byte)
  | inIllegal64to127 (port : Byte)
  | inIllegal128to255 (port : Byte)
  | outIllegal0to1 (port : Byte)
  | out2
  | out3
  | out4
  | out5
  | out6
  | out7
  | outIllegal8to15 (port : Byte)
  | outIllegal16to31 (port : Byte)
  | outIllegal32to63 (port : Byte)
  | outIllegal64to127 (port : Byte)
  | outIllegal128to255 (port : Byte)
deriving DecidableEq, Repr

/-- `IN` or `OUT`: the class of the instruction's opcode byte. -/
def Instr.cls (i : Instr) : OpClass :=
  match i with
  | .in0 => .input
  | .in1 => .input
  | .in2 => .input
  | .in3 => .input
  | .inIllegal4to7 _ => .input
  | .inIllegal8to15 _ => .input
  | .inIllegal16to31 _ => .input
  | .inIllegal32to63 _ => .input
  | .inIllegal64to127 _ => .input
  | .inIllegal128to255 _ => .input
  | .outIllegal0to1 _ => .output
  | .out2 => .output
  | .out3 => .output
  | .out4 => .output
  | .out5 => .output
  | .out6 => .output
  | .out7 => .output
  | .outIllegal8to15 _ => .output
  | .outIllegal16to31 _ => .output
  | .outIllegal32to63 _ => .output
  | .outIllegal64to127 _ => .output
  | .outIllegal128to255 _ => .output

/-- The port operand, byte 1 of the instruction (R81, R83). -/
def Instr.port (i : Instr) : Byte :=
  match i with
  | .in0 => 0
  | .in1 => 1
  | .in2 => 2
  | .in3 => 3
  | .inIllegal4to7 p => p
  | .inIllegal8to15 p => p
  | .inIllegal16to31 p => p
  | .inIllegal32to63 p => p
  | .inIllegal64to127 p => p
  | .inIllegal128to255 p => p
  | .outIllegal0to1 p => p
  | .out2 => 2
  | .out3 => 3
  | .out4 => 4
  | .out5 => 5
  | .out6 => 6
  | .out7 => 7
  | .outIllegal8to15 p => p
  | .outIllegal16to31 p => p
  | .outIllegal32to63 p => p
  | .outIllegal64to127 p => p
  | .outIllegal128to255 p => p

end Sys2Proof
end

