-- ==== Sys2Proof/WellFormed.lean ====
section
/-! DEFINITION. Which instructions are well formed: the port an instruction carries is one its row of
spec/opcode_table.json stands for. The row's `mask` and `match` over bits 7:0 (the port byte, 30_encoding.md R84) are
copied here; the bits of a row's mask in 15:8 are the opcode byte's, which `Instr.cls` gives. -/

namespace Sys2Proof

/-- Bits 7:0 of the row's `mask`. -/
def Instr.portMask (i : Instr) : Byte :=
  match i with
  | .in0 => 0xFF
  | .in1 => 0xFF
  | .in2 => 0xFF
  | .in3 => 0xFF
  | .inIllegal4to7 _ => 0xFC
  | .inIllegal8to15 _ => 0xF8
  | .inIllegal16to31 _ => 0xF0
  | .inIllegal32to63 _ => 0xE0
  | .inIllegal64to127 _ => 0xC0
  | .inIllegal128to255 _ => 0x80
  | .outIllegal0to1 _ => 0xFE
  | .out2 => 0xFF
  | .out3 => 0xFF
  | .out4 => 0xFF
  | .out5 => 0xFF
  | .out6 => 0xFF
  | .out7 => 0xFF
  | .outIllegal8to15 _ => 0xF8
  | .outIllegal16to31 _ => 0xF0
  | .outIllegal32to63 _ => 0xE0
  | .outIllegal64to127 _ => 0xC0
  | .outIllegal128to255 _ => 0x80

/-- Bits 7:0 of the row's `match`. -/
def Instr.portMatch (i : Instr) : Byte :=
  match i with
  | .in0 => 0x00
  | .in1 => 0x01
  | .in2 => 0x02
  | .in3 => 0x03
  | .inIllegal4to7 _ => 0x04
  | .inIllegal8to15 _ => 0x08
  | .inIllegal16to31 _ => 0x10
  | .inIllegal32to63 _ => 0x20
  | .inIllegal64to127 _ => 0x40
  | .inIllegal128to255 _ => 0x80
  | .outIllegal0to1 _ => 0x00
  | .out2 => 0x02
  | .out3 => 0x03
  | .out4 => 0x04
  | .out5 => 0x05
  | .out6 => 0x06
  | .out7 => 0x07
  | .outIllegal8to15 _ => 0x08
  | .outIllegal16to31 _ => 0x10
  | .outIllegal32to63 _ => 0x20
  | .outIllegal64to127 _ => 0x40
  | .outIllegal128to255 _ => 0x80

/-- The port the instruction carries lies in its row's set. -/
def Instr.wf (i : Instr) : Bool := i.port &&& i.portMask == i.portMatch

end Sys2Proof
end

