-- ==== Sys2Proof/Decode.lean ====
section
/-! DEFINITION. The decoder and the encoder of the two intercepted formats (30_encoding.md R80 to R87): byte 0 is the
opcode, byte 1 the port number. -/

namespace Sys2Proof

/-- Why bytes are no instruction of the block. -/
inductive DecodeReject where
  /-- No byte at all. -/
  | noBytes
  /-- A port opcode with no operand byte after it. -/
  | operandMissing
  /-- Class `Other` of R80: the CPU engine's own instruction, "not decoded further". -/
  | otherOpcode (op : Byte)
deriving DecidableEq, Repr

/-- The class of the byte at the program counter (R80); IN is tested first, as in 41_port_bank.md R120. -/
def classify (p : Params) (op : Byte) : OpClass :=
  if op = p.opcIn then .input else if op = p.opcOut then .output else .other

/-- The IN half of the opcode map (R85), by port number. -/
def decodeIn (port : Byte) : Instr :=
  if port = 0 then .in0
  else if port = 1 then .in1
  else if port = 2 then .in2
  else if port = 3 then .in3
  else if port.toNat < 8 then .inIllegal4to7 port
  else if port.toNat < 16 then .inIllegal8to15 port
  else if port.toNat < 32 then .inIllegal16to31 port
  else if port.toNat < 64 then .inIllegal32to63 port
  else if port.toNat < 128 then .inIllegal64to127 port
  else .inIllegal128to255 port

/-- The OUT half of the opcode map (R85), by port number. -/
def decodeOut (port : Byte) : Instr :=
  if port.toNat < 2 then .outIllegal0to1 port
  else if port = 2 then .out2
  else if port = 3 then .out3
  else if port = 4 then .out4
  else if port = 5 then .out5
  else if port = 6 then .out6
  else if port = 7 then .out7
  else if port.toNat < 16 then .outIllegal8to15 port
  else if port.toNat < 32 then .outIllegal16to31 port
  else if port.toNat < 64 then .outIllegal32to63 port
  else if port.toNat < 128 then .outIllegal64to127 port
  else .outIllegal128to255 port

/-- The instruction of an opcode byte and the byte after it, which only class `In` or `Out` looks at (R83). -/
def decodePair (p : Params) (op port : Byte) : Except DecodeReject Instr :=
  match classify p op with
  | .input => .ok (decodeIn port)
  | .output => .ok (decodeOut port)
  | .other => .error (.otherOpcode op)

/-- Decode the first instruction of a byte stream; the rest of the stream comes with it. Both formats are two bytes
long (R81, R87). -/
def decode (p : Params) (bytes : List Byte) : Except DecodeReject (Instr × List Byte) :=
  match bytes with
  | [] => .error .noBytes
  | [op] => if classify p op = .other then .error (.otherOpcode op) else .error .operandMissing
  | op :: port :: rest =>
    match decodePair p op port with
    | .ok i => .ok (i, rest)
    | .error r => .error r

/-- Byte 0 of an instruction: the class's opcode parameter (R81, R82). No instruction has class `Other`. -/
def opcodeByte (p : Params) (c : OpClass) : Byte :=
  match c with
  | .input => p.opcIn
  | .output => p.opcOut
  | .other => 0

/-- The two bytes of an instruction, in increasing address order (R65, R81). -/
def encode (p : Params) (i : Instr) : List Byte := [opcodeByte p i.cls, i.port]

/-- Byte `k` (0 or 1) of the instruction that spec/opcode_table.json numbers `w`: the table's one word is
`(byte0 << 8) | byte1` (R84), and bits above `nbits` are 0. -/
def tableByte (nbits w k : Nat) : Byte :=
  BitVec.ofNat 8 ((w % 2 ^ nbits) >>> (if k = 0 then 8 else 0))

/-- The instruction the decoder reads from the table's word, with the reference opcodes that the table shows (R84). -/
def decodeTableWord (nbits w : Nat) : Option Instr :=
  match decode Machine.referenceParams [tableByte nbits w 0, tableByte nbits w 1] with
  | .ok (i, _) => some i
  | .error _ => none

end Sys2Proof
end

