-- ==== Sys2Proof/Machine/Operands.lean ====
section
/-! DEFINITION. The operands (30_encoding.md R81, R83): the opcode byte at `pc`, the immediate port number at
`(pc + 1) mod 2^P_ADDR_BITS`, and the accumulator, which IN writes whole and OUT reads whole. -/

namespace Sys2Proof.Machine

/-- `peekOpcode(pc)`: the byte at the program counter, not consumed (00_scope.md R19, 20_memory.md R61). -/
def State.opcodeByte (s : State) : Byte := Memory.read s.mem s.pc

/-- The port-number operand's byte (R83); at the top address it is read at address 0 (R66). -/
def State.portByte (s : State) : Byte := Memory.read s.mem (addrWrap s.params (s.pc + 1))

/-- The instruction at the program counter, as the intercept sees it (R61, R80). -/
def State.fetch (s : State) : Except DecodeReject Instr :=
  decodePair s.params s.opcodeByte s.portByte

/-- The destination of IN: all 8 bits of A (R83). -/
def State.setA (s : State) (v : Byte) : State := { s with a := v }

end Sys2Proof.Machine
end

