-- ==== Sys2Proof/Machine/Ports.lean ====
section
/-! DEFINITION. The operations the port instructions share: the shift register's window and load (42_shift_register.md R140,
R143), the audio trigger (43_audio_trigger.md R160), the read and write multiplexers (41_port_bank.md R121, R122) and one
whole IN and OUT (R120, R123). -/

namespace Sys2Proof.Machine

/-- `(shiftData >> (8 - shiftAmount)) & 0xFF` (R140). -/
def shiftWindow (data : HalfWord) (amount : Byte) : Byte := (data >>> (8 - amount.toNat)).setWidth 8

/-- `((v << 8) | (shiftData >> 8)) & 0xFFFF` (R143). -/
def shiftLoad (v : Byte) (data : HalfWord) : HalfWord := (v.setWidth 16 <<< 8) ||| (data >>> 8)

/-- The two sound banks (R160). -/
inductive Bank where
  | bank1
  | bank2
deriving DecidableEq, Repr

/-- The mapped bits: `mask(bank)` of R160. -/
def Bank.mask (b : Bank) : Byte :=
  match b with
  | .bank1 => 0x0F
  | .bank2 => 0x1F

/-- The sample of bit 0: `base(bank)` of R160. -/
def Bank.base (b : Bank) : Nat :=
  match b with
  | .bank1 => 0
  | .bank2 => 4

/-- The bank's latch (R160). -/
def State.latch (s : State) (b : Bank) : Byte :=
  match b with
  | .bank1 => s.soundLatch1
  | .bank2 => s.soundLatch2

/-- `latch(bank) <- v`, all 8 bits (10_state.md R36). -/
def State.setLatch (s : State) (b : Bank) (v : Byte) : State :=
  match b with
  | .bank1 => { s with soundLatch1 := v }
  | .bank2 => { s with soundLatch2 := v }

/-- The mapped bits that go from 0 to 1 (R160). -/
def risingBits (b : Bank) (old v : Byte) : Byte := v &&& ~~~old &&& b.mask

/-- The `Play` events of a set of rising bits, ascending (R160). -/
def bankPlays (b : Bank) (rising : Byte) : List Event :=
  (List.range 8).filterMap fun k => if rising.getLsbD k then some (.play (b.base + k)) else none

/-- `Trigger(bank, v)` (R160). -/
def State.trigger (s : State) (b : Bank) (v : Byte) : State :=
  if v = s.latch b then s
  else ({ s with trace := s.trace ++ bankPlays b (risingBits b (s.latch b) v) } : State).setLatch b v

/-- `ShiftRead()` refreshes the cache (R140); the value read is the cache's new value. -/
def State.shiftRead (s : State) : State := { s with shiftOut := shiftWindow s.shiftData s.shiftAmount }

/-- `PortRead(p)` (R121): the value read and the state after it; none where the rule raises `FatalPortRead`. -/
def State.portRead (s : State) (port : Byte) : Option (Byte × State) :=
  if port = 0 then some (s.switch0, s)
  else if port = 1 then some (s.switch1, s)
  else if port = 2 then some (s.switch2, s)
  else if port = 3 then some (s.shiftRead.shiftOut, s.shiftRead)
  else none

/-- `PortWrite(p, v)` (R122); none where the rule raises `FatalPortWrite`. -/
def State.portWrite (s : State) (port v : Byte) : Option State :=
  if port = 2 then some { s with shiftAmount := v &&& 0x7 }
  else if port = 3 then some (s.trigger .bank1 v)
  else if port = 4 then some { s with shiftData := shiftLoad v s.shiftData }
  else if port = 5 then some (s.trigger .bank2 v)
  else if port = 6 then some { s with watchdog := v }
  else if port = 7 then some s
  else none

/-- One IN: the intercept (R120) and, unless it faults, the `step()` that executes the instruction (R123). -/
def State.runIn (s : State) (port : Byte) : State :=
  match s.portRead port with
  | some (v, t) => (t.setA v).stepPort
  | none => s.raiseFatal (.portRead port s.pc)

/-- One OUT: the intercept (R120) and, unless it faults, the `step()` that executes the instruction (R123). -/
def State.runOut (s : State) (port : Byte) : State :=
  match s.portWrite port s.a with
  | some t => t.stepPort
  | none => s.raiseFatal (.portWrite port s.pc s.a)

end Sys2Proof.Machine
end

