-- ==== Sys2Proof/Machine/AudioTrigger.lean ====
section
/-! DEFINITION. The sound banks' instructions (43_audio_trigger.md R161, R162). -/

namespace Sys2Proof.Machine

/-- `OUT 3`: `Trigger(1, A)` (R161). -/
def execOut3 (s : State) : Host.Outcome State Fault Refusal := .next (s.runOut 3)

/-- `OUT 5`: `Trigger(2, A)` (R162). -/
def execOut5 (s : State) : Host.Outcome State Fault Refusal := .next (s.runOut 5)

end Sys2Proof.Machine
end

