-- ==== Sys2Proof/Machine/PortBank.lean ====
section
/-! DEFINITION. The switch ports, the watchdog and the spare port (41_port_bank.md R124 to R130): IN 0, IN 1, IN 2, OUT 6, OUT 7 and
the illegal ports. An illegal port takes the fatal fault of 60_exceptions.md R220: a next state whose status is `Faulted`. -/

namespace Sys2Proof.Machine

/-- `IN 0`: `A <- switch0` (R124). -/
def execIn0 (s : State) : Host.Outcome State Fault Refusal := .next (s.runIn 0)

/-- `IN 1`: `A <- switch1` (R125). -/
def execIn1 (s : State) : Host.Outcome State Fault Refusal := .next (s.runIn 1)

/-- `IN 2`: `A <- switch2` (R126). -/
def execIn2 (s : State) : Host.Outcome State Fault Refusal := .next (s.runIn 2)

/-- `IN p`, p in 4..7: `FatalPortRead`, always (R127). -/
def execInIllegal4to7 (port : Byte) (s : State) : Host.Outcome State Fault Refusal := .next (s.runIn port)

/-- `IN p`, p in 8..15: `FatalPortRead`, always (R127). -/
def execInIllegal8to15 (port : Byte) (s : State) : Host.Outcome State Fault Refusal := .next (s.runIn port)

/-- `IN p`, p in 16..31: `FatalPortRead`, always (R127). -/
def execInIllegal16to31 (port : Byte) (s : State) : Host.Outcome State Fault Refusal := .next (s.runIn port)

/-- `IN p`, p in 32..63: `FatalPortRead`, always (R127). -/
def execInIllegal32to63 (port : Byte) (s : State) : Host.Outcome State Fault Refusal := .next (s.runIn port)

/-- `IN p`, p in 64..127: `FatalPortRead`, always (R127). -/
def execInIllegal64to127 (port : Byte) (s : State) : Host.Outcome State Fault Refusal := .next (s.runIn port)

/-- `IN p`, p in 128..255: `FatalPortRead`, always (R127). -/
def execInIllegal128to255 (port : Byte) (s : State) : Host.Outcome State Fault Refusal := .next (s.runIn port)

/-- `OUT p`, p in 0..1: `FatalPortWrite`, always (R130). -/
def execOutIllegal0to1 (port : Byte) (s : State) : Host.Outcome State Fault Refusal := .next (s.runOut port)

/-- `OUT 6`: `watchdog <- A` (R128). -/
def execOut6 (s : State) : Host.Outcome State Fault Refusal := .next (s.runOut 6)

/-- `OUT 7`: legal, no effect (R129). -/
def execOut7 (s : State) : Host.Outcome State Fault Refusal := .next (s.runOut 7)

/-- `OUT p`, p in 8..15: `FatalPortWrite`, always (R130). -/
def execOutIllegal8to15 (port : Byte) (s : State) : Host.Outcome State Fault Refusal := .next (s.runOut port)

/-- `OUT p`, p in 16..31: `FatalPortWrite`, always (R130). -/
def execOutIllegal16to31 (port : Byte) (s : State) : Host.Outcome State Fault Refusal := .next (s.runOut port)

/-- `OUT p`, p in 32..63: `FatalPortWrite`, always (R130). -/
def execOutIllegal32to63 (port : Byte) (s : State) : Host.Outcome State Fault Refusal := .next (s.runOut port)

/-- `OUT p`, p in 64..127: `FatalPortWrite`, always (R130). -/
def execOutIllegal64to127 (port : Byte) (s : State) : Host.Outcome State Fault Refusal := .next (s.runOut port)

/-- `OUT p`, p in 128..255: `FatalPortWrite`, always (R130). -/
def execOutIllegal128to255 (port : Byte) (s : State) : Host.Outcome State Fault Refusal := .next (s.runOut port)

end Sys2Proof.Machine
end

