-- ==== Sys2Proof/Machine/ShiftRegister.lean ====
section
/-! DEFINITION. The shift register's instructions (42_shift_register.md R141 to R143). -/

namespace Sys2Proof.Machine

/-- `IN 3`: `A <- ShiftRead()` (R141). -/
def execIn3 (s : State) : Host.Outcome State Fault Refusal := .next (s.runIn 3)

/-- `OUT 2`: `shiftAmount <- A & 0x7` (R142). -/
def execOut2 (s : State) : Host.Outcome State Fault Refusal := .next (s.runOut 2)

/-- `OUT 4`: push A as the new high byte (R143). -/
def execOut4 (s : State) : Host.Outcome State Fault Refusal := .next (s.runOut 4)

end Sys2Proof.Machine
end

