-- ==== Sys2Proof/Machine/Dispatch.lean ====
section
/-! DEFINITION. The dispatch: one arm per instruction, in the opcode table's order. -/

namespace Sys2Proof.Machine

def exec (i : Instr) (s : State) : Host.Outcome State Fault Refusal :=
  match i with
  | .in0 => Sys2Proof.Machine.execIn0 s
  | .in1 => Sys2Proof.Machine.execIn1 s
  | .in2 => Sys2Proof.Machine.execIn2 s
  | .in3 => Sys2Proof.Machine.execIn3 s
  | .inIllegal4to7 port => Sys2Proof.Machine.execInIllegal4to7 port s
  | .inIllegal8to15 port => Sys2Proof.Machine.execInIllegal8to15 port s
  | .inIllegal16to31 port => Sys2Proof.Machine.execInIllegal16to31 port s
  | .inIllegal32to63 port => Sys2Proof.Machine.execInIllegal32to63 port s
  | .inIllegal64to127 port => Sys2Proof.Machine.execInIllegal64to127 port s
  | .inIllegal128to255 port => Sys2Proof.Machine.execInIllegal128to255 port s
  | .outIllegal0to1 port => Sys2Proof.Machine.execOutIllegal0to1 port s
  | .out2 => Sys2Proof.Machine.execOut2 s
  | .out3 => Sys2Proof.Machine.execOut3 s
  | .out4 => Sys2Proof.Machine.execOut4 s
  | .out5 => Sys2Proof.Machine.execOut5 s
  | .out6 => Sys2Proof.Machine.execOut6 s
  | .out7 => Sys2Proof.Machine.execOut7 s
  | .outIllegal8to15 port => Sys2Proof.Machine.execOutIllegal8to15 port s
  | .outIllegal16to31 port => Sys2Proof.Machine.execOutIllegal16to31 port s
  | .outIllegal32to63 port => Sys2Proof.Machine.execOutIllegal32to63 port s
  | .outIllegal64to127 port => Sys2Proof.Machine.execOutIllegal64to127 port s
  | .outIllegal128to255 port => Sys2Proof.Machine.execOutIllegal128to255 port s

end Sys2Proof.Machine
end

