-- ==== Sys2Proof/Machine/Input.lean ====
section
/-! DEFINITION. The input mapper (45_input_mapper.md): one poll writes the bound bits of `switch1` and `switch2`. -/

namespace Sys2Proof.Machine

/-- Set bit `b` if the key is held, clear it otherwise (R201, R202). -/
def driveBit (v : Byte) (b : Nat) (held : Bool) : Byte :=
  if held then v ||| (1 <<< b) else v &&& (0xFF ^^^ (1 <<< b))

/-- One entry of the list applied to `(switch1, switch2)` (R201). -/
def applyBinding (held : Key → Bool) (sw : Byte × Byte) (e : Binding) : Byte × Byte :=
  match e.port with
  | .port1 => (driveBit sw.1 e.bit.val (held e.key), sw.2)
  | .port2 => (sw.1, driveBit sw.2 e.bit.val (held e.key))

/-- `poll() -> (switch1, switch2)`: the entries in list order (R201), `held` being the key states sampled at this poll
(R203). -/
def applyBindings (held : Key → Bool) (bindings : List Binding) (sw : Byte × Byte) : Byte × Byte :=
  bindings.foldl (applyBinding held) sw

/-- `poll()` on the machine: only `switch1` and `switch2` are written (R204). -/
def State.pollSwitches (s : State) (held : Key → Bool) : State :=
  { s with switch1 := (applyBindings held s.params.bindings (s.switch1, s.switch2)).1,
           switch2 := (applyBindings held s.params.bindings (s.switch1, s.switch2)).2 }

end Sys2Proof.Machine
end

