-- ==== Sys2Proof/Machine/Video.lean ====
section
/-! DEFINITION. The video decoder (44_video_decoder.md): the bit-to-pixel map with its rotation, the colour mux, and the decode
of the whole window. `decodeFrame` is what the machine runs, one output pixel at a time by the inverse map of R183;
`decodeLoop` is the procedure of R186 as it is written (log entry 16). -/

namespace Sys2Proof.Machine

/-- `Colour(ox, oy, lit)`, a function of the output coordinates and the lit bit alone (R184, R189). -/
def colour (p : Params) (ox oy : Nat) (lit : Bool) : Colour :=
  let x := outH - 1 - oy
  if lit = false then .black
  else if x ≤ p.greenXHi then
    if x ≤ p.edgeXHi ∧ ¬ (p.edgeYLo ≤ ox ∧ ox ≤ p.edgeYHi) then .white else .green
  else if p.redXLo ≤ x ∧ x ≤ p.redXHi then .red
  else .white

/-- The packed 32-bit value of a colour (R187). -/
def packColour (p : Params) (c : Colour) : Pixel :=
  match c with
  | .black => p.rgbBlack
  | .green => p.rgbGreen
  | .red => p.rgbRed
  | .white => p.rgbWhite

/-- Native column of bit `k` of window byte `i` (R181). -/
def nativeX (i k : Nat) : Nat := 8 * (i % 32) + k

/-- Native row of window byte `i` (R181). -/
def nativeY (i : Nat) : Nat := i / 32

/-- Window byte of output pixel `(ox, oy)`: the inverse map of R183. -/
def pixelByte (ox oy : Nat) : Nat := 32 * ox + (outH - 1 - oy) / 8

/-- Bit, in its window byte, of output pixel `(ox, oy)`: the inverse map of R183. -/
def pixelBit (oy : Nat) : Nat := (outH - 1 - oy) % 8

/-- Window byte `i` is `MemRead(P_VRAM_BASE + i, 1)` (20_memory.md R62). -/
def windowByte (p : Params) (m : Memory) (i : Nat) : Byte := Memory.read m (p.vramBase + i)

/-- The output pixel is lit when its bit is 1 (R180). -/
def pixelLit (p : Params) (m : Memory) (ox oy : Nat) : Bool :=
  (windowByte p m (pixelByte ox oy)).getLsbD (pixelBit oy)

/-- `decode()` (R186): every pixel of the frame, element `oy * W + ox` being pixel `(ox, oy)` (10_state.md R41). -/
def decodeFrame (p : Params) (m : Memory) : List Colour :=
  (List.range (p.outW * outH)).map fun n =>
    colour p (n % p.outW) (n / p.outW) (pixelLit p m (n % p.outW) (n / p.outW))

/-- The body of R186's loops: bit `k` of window byte `i` is written at its output pixel (R182). -/
def plotBit (p : Params) (m : Memory) (i : Nat) (fb : List Colour) (k : Nat) : List Colour :=
  let ox := nativeY i
  let oy := outH - 1 - nativeX i k
  fb.set (oy * p.outW + ox) (colour p ox oy ((windowByte p m i).getLsbD k))

/-- R186's two loops, over an old framebuffer `fb`. -/
def decodeLoop (p : Params) (m : Memory) (fb : List Colour) : List Colour :=
  (List.range p.vramSize).foldl (fun fb i => (List.range 8).foldl (plotBit p m i) fb) fb

end Sys2Proof.Machine
end

