-- ==== Sys2Proof/Machine/Scheduler.lean ====
section
/-! DEFINITION. The frame scheduler (40_frame_scheduler.md): one step of the block is one transition of R101's table, chosen
by the phase. -/

namespace Sys2Proof.Machine

/-- The vector the cursor selects (R104, 10_state.md R40). -/
def State.vector (s : State) : Nat :=
  match s.cursor with
  | .first => s.params.vecFirst
  | .second => s.params.vecSecond

/-- The cursor's flip (R104). -/
def Cursor.flip (c : Cursor) : Cursor :=
  match c with
  | .first => .second
  | .second => .first

/-- Phase `Deliver`: inject the cursor's vector, flip the cursor, go to `Burst2` (R104). -/
def State.deliver (s : State) : State :=
  { s.inject s.vector with cursor := s.cursor.flip, phase := .burst2 }

/-- Phase `Decode`: decode the window, publish the packed framebuffer, go to `Poll` (R106). -/
def State.decodeAndPublish (s : State) : State :=
  ({ s with framebuffer := decodeFrame s.params s.mem, phase := .poll } : State).emit
    (.publish ((decodeFrame s.params s.mem).map (packColour s.params)))

/-- Phase `Poll` with the surface's answers: the bindings first, then the exit test, then the next frame with
`cyc = 0` (R102, R107). -/
def State.pollWith (s : State) (held : Key → Bool) (isOpen : Bool) : State :=
  if held s.params.exitKey || !isOpen then
    (({ s with draws := s.draws + 1 } : State).pollSwitches held).exitRun
  else
    { ({ s with draws := s.draws + 1 } : State).pollSwitches held with phase := .burst1, cyc := 0 }

/-- Phase `Poll`: each key and `isOpen()` sampled once (45_input_mapper.md R203). -/
def State.poll (s : State) : State := s.pollWith (Config.keyDown s.draws) (Config.surfaceOpen s.draws)

/-- One iteration of a burst: the intercept and the `step()` (R103, R105). An IN or OUT is run by `run`; any other opcode
passes to the CPU untouched (41_port_bank.md R120). -/
def State.burstIteration (run : Instr → State → Host.Outcome State Fault Refusal) (s : State) :
    Host.Outcome State Fault Refusal :=
  match s.fetch with
  | .ok i => run i s
  | .error _ => .next s.stepOther

/-- One transition (R101). A burst tests its threshold before each iteration (R103, R105). No transition fires in an `Exited`
or `Faulted` state (60_exceptions.md R238). -/
def State.transition (run : Instr → State → Host.Outcome State Fault Refusal) (s : State) :
    Host.Outcome State Fault Refusal :=
  match s.status with
  | .exited code => .fault (.runExited code)
  | .faulted info => .fault (.runFaulted info)
  | .running =>
    match s.phase with
    | .burst1 => if s.params.half ≤ s.cyc then .next { s with phase := .deliver } else s.burstIteration run
    | .deliver => .next s.deliver
    | .burst2 => if s.params.frameCycles ≤ s.cyc then .next { s with phase := .decode } else s.burstIteration run
    | .decode => .next s.decodeAndPublish
    | .poll => .next s.poll

/-- The next step runs the instruction at `pc`. -/
def State.inBurst (s : State) : Bool :=
  decide (s.status = .running) &&
    ((decide (s.phase = .burst1) && decide (s.cyc < s.params.half)) ||
     (decide (s.phase = .burst2) && decide (s.cyc < s.params.frameCycles)))

/-- The state with two instruction bytes where the next step fetches. A state that would not fetch next is put at the start
of a burst (log entry 20). -/
def State.placeInstr (s : State) (b0 b1 : Byte) : State :=
  let t := if s.inBurst then s
           else { s with status := .running, cyc := 0, phase := if 0 < s.params.half then .burst1 else .burst2 }
  { t with mem := Memory.write (Memory.write t.mem t.pc b0) (addrWrap t.params (t.pc + 1)) b1 }

end Sys2Proof.Machine
end

