-- ==== Sys2Proof/Machine/Step.lean ====
section
/-! DEFINITION. One step of the block: one transition of the frame scheduler's table (40_frame_scheduler.md R101), with `exec`
for the instructions; and the placing of an instruction for the next step to run. -/

namespace Sys2Proof.Machine

/-- One transition of the block. -/
def step (s : State) : Host.Outcome State Fault Refusal := s.transition exec

/-- `s` with the instruction that spec/opcode_table.json numbers `w` stored where the next step fetches. -/
def State.withFetchWord (s : State) (nbits w : Nat) : State :=
  s.placeInstr (tableByte nbits w 0) (tableByte nbits w 1)

end Sys2Proof.Machine
end

