-- ==== Sys2Proof/Safety.lean ====
section
/-! DEFINITION. What counts as a safe run, and the invariants and the comparison of runs that the statements are made in. -/

namespace Sys2Proof.Machine

/-- A run goes well while its status is never `Faulted` (60_exceptions.md R239). -/
def State.unfaulted (s : State) : Prop := ∀ info, s.status ≠ .faulted info

/-- The legal states: the parameters meet their constraints (R9 to R13), the memory store is in canonical form and inside
its size (20_memory.md R60), `pc` has P_ADDR_BITS bits (10_state.md R47), the window offset is at most 7 and `switch0` is
its power-up value (R33, R31, R51), and the framebuffer has W×H pixels (R41). -/
structure State.Inv (s : State) : Prop where
  params_ok     : s.params.wf
  mem_canonical : Memory.wf s.mem
  mem_inside    : ∀ c ∈ s.mem, c.1 < s.params.memSize
  pc_inside     : s.pc < 2 ^ s.params.addrBits
  offset_small  : s.shiftAmount.toNat ≤ 7
  switch0_fixed : s.switch0 = s.params.sw0Init
  frame_size    : s.framebuffer.length = s.params.outW * outH

/-- The budgets are floors (40_frame_scheduler.md R108): from the delivery on, at least HALF cycles have been counted in this
frame; from the decode on, at least B. -/
def State.ScheduleInv (s : State) : Prop :=
  ((s.phase = .deliver ∨ s.phase = .burst2) → s.params.half ≤ s.cyc) ∧
  ((s.phase = .decode ∨ s.phase = .poll) → s.params.frameCycles ≤ s.cyc)

/-- The vectors injected so far, oldest first. -/
def injectedVectors (trace : List Event) : List Nat :=
  trace.filterMap fun e => match e with
    | .inject v => some v
    | .play _ => none
    | .publish _ => none
    | .exit _ => none
    | .fatal _ _ => none

/-- How many frames have been published so far. -/
def publishCount (trace : List Event) : Nat :=
  trace.countP fun e => match e with
    | .publish _ => true
    | .inject _ => false
    | .play _ => false
    | .exit _ => false
    | .fatal _ _ => false

/-- The two vectors in turn, `P_VEC_FIRST` first. -/
def alternatingVectors (p : Params) (n : Nat) : List Nat :=
  (List.range n).map fun k => if k % 2 = 0 then p.vecFirst else p.vecSecond

/-- The vectors injected so far alternate from `P_VEC_FIRST`, and the cursor names the next one (R109, 10_state.md R40). -/
def State.AlternationInv (s : State) : Prop :=
  injectedVectors s.trace = alternatingVectors s.params (injectedVectors s.trace).length ∧
  (s.cursor = .first ↔ (injectedVectors s.trace).length % 2 = 0)

/-- One interrupt and one publish a frame, the interrupt first (R100, R109, 60_exceptions.md R226). -/
def State.FrameCountInv (s : State) : Prop :=
  (injectedVectors s.trace).length =
    publishCount s.trace + (if s.phase = .burst2 ∨ s.phase = .decode then 1 else 0)

/-- `Exit` or `Fatal` (00_scope.md R8). -/
def Event.terminal (e : Event) : Bool :=
  match e with
  | .exit _ => true
  | .fatal _ _ => true
  | .play _ => false
  | .inject _ => false
  | .publish _ => false

/-- The trace ends with the terminal event of the run status, and holds no other (R220, R238, R241). -/
def State.EndInv (s : State) : Prop :=
  match s.status with
  | .running => ∀ e ∈ s.trace, e.terminal = false
  | .exited code => code = 0 ∧ ∃ before, s.trace = before ++ [.exit 0] ∧ ∀ e ∈ before, e.terminal = false
  | .faulted info =>
    ∃ before, s.trace = before ++ [.fatal info.code info] ∧ ∀ e ∈ before, e.terminal = false

/-- Only samples 0..8 have been requested (43_audio_trigger.md R166). -/
def State.PlayInv (s : State) : Prop := ∀ n, Event.play n ∈ s.trace → n ≤ 8

/-- A switch bit that no binding names holds its power-up value (45_input_mapper.md R204). -/
def State.UnboundInv (s : State) : Prop :=
  ∀ b : Fin 8,
    ((∀ e ∈ s.params.bindings, ¬ (e.port = .port1 ∧ e.bit = b)) →
      s.switch1.getLsbD b.val = s.params.sw1Init.getLsbD b.val) ∧
    ((∀ e ∈ s.params.bindings, ¬ (e.port = .port2 ∧ e.bit = b)) →
      s.switch2.getLsbD b.val = s.params.sw2Init.getLsbD b.val)

/-- The state with what no rule reads blanked out: the window cache (R35), the watchdog (R37) and the last framebuffer
(44_video_decoder.md R190). -/
def State.hideUnread (s : State) : State := { s with shiftOut := 0, watchdog := 0, framebuffer := [] }

/-- An outcome with `f` applied to its next state. -/
def mapNext (f : State → State) (o : Host.Outcome State Fault Refusal) : Host.Outcome State Fault Refusal :=
  match o with
  | .next t => .next (f t)
  | .fault r => .fault r
  | .refused r => .refused r

end Sys2Proof.Machine
end

