-- ==== Sys2Proof/Certificates/Slice0/Obligations.lean ====
section
/-! DEFINITION. The statements for the provers, each from the rules of spec/ that its docstring names. -/

open Sys2Proof Sys2Proof.Machine

/-! ### Power-up -/

/-- R50, R250, R11: the state of a machine powered up with any parameters; memory holds the image, and the draw P_MEM_INIT
wherever the image does not reach. The four CPU fields (`a`, `pc`, `cpuHalted`, `cpuRest`) are the model's choice (log
entry 11). That a draw is written as a list with 0x00 after its end is the model's form of it (log entry 10). -/
def Obligations.PowerUpState : Prop :=
  ∀ p : Params,
    let s := State.powerUp p
    s.switch0 = p.sw0Init ∧ s.switch1 = p.sw1Init ∧ s.switch2 = p.sw2Init ∧
    s.shiftAmount = 0 ∧ s.shiftData = 0 ∧ s.shiftOut = 0 ∧ s.soundLatch1 = 0 ∧ s.soundLatch2 = 0 ∧ s.watchdog = 0 ∧
    s.cursor = .first ∧ s.framebuffer = List.replicate (p.outW * 256) .black ∧
    s.phase = .burst1 ∧ s.cyc = 0 ∧ s.status = .running ∧ s.trace = [] ∧ s.params = p ∧
    (∀ k, Memory.read s.mem k = if k < p.image.length then p.image.getD k 0x00 else p.memInit.getD k 0x00) ∧
    s.a = 0 ∧ s.pc = 0 ∧ s.cpuHalted = false ∧ s.cpuRest = 0

/-- The machine right after reset, and every machine powered up with parameters that meet their constraints, meets every
invariant that the statements below say a step keeps. -/
def Obligations.PowerUpMeetsInvariants : Prop :=
  (∀ p : Params, p.wf →
    (State.powerUp p).Inv ∧ (State.powerUp p).ScheduleInv ∧ (State.powerUp p).AlternationInv ∧
    (State.powerUp p).FrameCountInv ∧ (State.powerUp p).EndInv ∧ (State.powerUp p).PlayInv ∧
    (State.powerUp p).UnboundInv) ∧
  State.reset.Inv

/-- R253: what the ports read before anything is written, and the first sound after power-up. -/
def Obligations.PowerUpPortReads : Prop :=
  ∀ (p : Params) (t : State),
    (exec .in1 (State.powerUp p) = .next t → t.a = p.sw1Init) ∧
    (exec .in2 (State.powerUp p) = .next t → t.a = p.sw2Init) ∧
    (exec .in3 (State.powerUp p) = .next t → t.a = 0x00) ∧
    (∀ v, exec .out3 { State.powerUp p with a := v } = .next t →
      ∀ k < 4, (Event.play k ∈ t.trace ↔ v.getLsbD k = true)) ∧
    (∀ v, exec .out5 { State.powerUp p with a := v } = .next t →
      ∀ k < 5, (Event.play (4 + k) ∈ t.trace ↔ v.getLsbD k = true))

/-! ### Encoding -/

/-- R80, R81, R83, R85, R86: decoding the encoding of a well-formed instruction gives it back, whatever the opcode
parameters (R9 requires them to differ) and whatever follows it. -/
def Obligations.DecodeEncodeAgree : Prop :=
  ∀ (p : Params) (i : Instr) (rest : List Byte),
    p.opcIn ≠ p.opcOut → i.wf = true → decode p (encode p i ++ rest) = .ok (i, rest)

/-- R81, R85, R87: what the decoder reads is well formed, and its encoding is the bytes it was read from: no two words have
one meaning, and the two bytes are all it takes. -/
def Obligations.DecodedIsWellFormed : Prop :=
  ∀ (p : Params) (bytes : List Byte) (i : Instr) (rest : List Byte),
    decode p bytes = .ok (i, rest) → i.wf = true ∧ encode p i ++ rest = bytes

/-- R80: the bytes that are no instruction of the block are those that begin with an opcode other than the two; only a port
opcode needs its operand. -/
def Obligations.DecoderRejectsByClass : Prop :=
  ∀ (p : Params) (op port : Byte) (rest : List Byte),
    decode p [] = .error .noBytes ∧
    (op ≠ p.opcIn → op ≠ p.opcOut →
      decode p [op] = .error (.otherOpcode op) ∧ decode p (op :: port :: rest) = .error (.otherOpcode op)) ∧
    (op = p.opcIn ∨ op = p.opcOut → decode p [op] = .error .operandMissing ∧
      ∃ i, decode p (op :: port :: rest) = .ok (i, rest))

/-- R82, R84, R85: words written out from the opcode table's encodings decode to the rows they stand for. -/
def Obligations.PortWordsDecode : Prop :=
  decodeTableWord 16 0b1101101100000011 = some .in3 ∧
  decodeTableWord 16 0b1101101100000100 = some (.inIllegal4to7 4) ∧
  decodeTableWord 16 0b1101101111111111 = some (.inIllegal128to255 255) ∧
  decodeTableWord 16 0b1101001100000001 = some (.outIllegal0to1 1) ∧
  decodeTableWord 16 0b1101001100000101 = some .out5 ∧
  decodeTableWord 16 0b1101001100001000 = some (.outIllegal8to15 8) ∧
  decodeTableWord 16 0b0011111011011011 = none

/-! ### The port instructions -/

/-- R123, R259: the CPU engine's `step()` after an intercepted IN or OUT. An engine that runs executes the instruction: only
`pc` moves, by 2 mod 2^P_ADDR_BITS, and the returned cycles are counted; A, the flags and memory stay. A halted engine
(`pc` does not move) executes nothing. What a halted engine leaves as it was is DEDUCED from R259 (log entry 5). -/
def Obligations.PortDispatch : Prop :=
  ∀ s : State,
    (s.cpuHalted = false →
      s.stepPort = { s with pc := (s.pc + 2) % 2 ^ s.params.addrBits,
                            cyc := s.cyc + (Config.cpuStep s.draws s.cpuView).cycles,
                            draws := s.draws + 1 }) ∧
    (s.cpuHalted = true →
      s.stepPort = { s with cpuHalted := (Config.cpuStep s.draws s.cpuView).halted,
                            cpuRest := (Config.cpuStep s.draws s.cpuView).rest,
                            cyc := s.cyc + (Config.cpuStep s.draws s.cpuView).cycles,
                            draws := s.draws + 1 })

/-- R124, R125, R126: IN 0, IN 1 and IN 2 complete in every state, put the switch byte in A, and change nothing else before
the CPU's step; `switch0` never changes and the other two only in phase `Poll`. -/
def Obligations.SwitchPortReads : Prop :=
  (∀ p : Params, decode p [p.opcIn, 0x00] = .ok (.in0, []) ∧ decode p [p.opcIn, 0x01] = .ok (.in1, []) ∧
    decode p [p.opcIn, 0x02] = .ok (.in2, [])) ∧
  (∀ s : State,
    exec .in0 s = .next (State.stepPort { s with a := s.switch0 }) ∧
    exec .in1 s = .next (State.stepPort { s with a := s.switch1 }) ∧
    exec .in2 s = .next (State.stepPort { s with a := s.switch2 })) ∧
  (∀ p : Params, (State.powerUp p).switch0 = p.sw0Init ∧ (State.powerUp p).params = p) ∧
  (∀ s t : State, step s = .next t →
    t.switch0 = s.switch0 ∧ t.params = s.params ∧
    (s.phase ≠ .poll → t.switch1 = s.switch1 ∧ t.switch2 = s.switch2))

/-- R140, R141: IN 3 completes in every state with A and the cache `shiftOut` both the window
`(shiftData >> (8 - shiftAmount)) & 0xFF`. -/
def Obligations.In3ReadsWindow : Prop :=
  (∀ p : Params, decode p [p.opcIn, 0x03] = .ok (.in3, [])) ∧
  (∀ s : State, s.shiftAmount.toNat ≤ 7 →
    exec .in3 s = .next (State.stepPort
      { s with a := BitVec.ofNat 8 (s.shiftData.toNat / 2 ^ (8 - s.shiftAmount.toNat) % 256),
               shiftOut := BitVec.ofNat 8 (s.shiftData.toNat / 2 ^ (8 - s.shiftAmount.toNat) % 256) }))

/-- R142: OUT 2 keeps the low 3 bits of A as the window offset. -/
def Obligations.Out2SetsOffset : Prop :=
  (∀ p : Params, p.opcIn ≠ p.opcOut → decode p [p.opcOut, 0x02] = .ok (.out2, [])) ∧
  (∀ s : State, exec .out2 s = .next (State.stepPort { s with shiftAmount := BitVec.ofNat 8 (s.a.toNat % 8) }))

/-- R143: OUT 4 makes A the new high byte and the old high byte the new low byte. -/
def Obligations.Out4LoadsByte : Prop :=
  (∀ p : Params, p.opcIn ≠ p.opcOut → decode p [p.opcOut, 0x04] = .ok (.out4, [])) ∧
  (∀ s : State, exec .out4 s = .next (State.stepPort
    { s with shiftData := BitVec.ofNat 16 (s.a.toNat * 256 + s.shiftData.toNat / 256) }))

/-- R160, R161, R163: OUT 3 stores the whole byte and requests, in ascending order, the sample of every bit 0..3 that goes
from 0 to 1. The `v != old` test changes no outcome. -/
def Obligations.SoundBank1Write : Prop :=
  (∀ p : Params, p.opcIn ≠ p.opcOut → decode p [p.opcOut, 0x03] = .ok (.out3, [])) ∧
  (∀ s : State, exec .out3 s = .next (State.stepPort
    { s with soundLatch1 := s.a,
             trace := s.trace ++ ((List.range 4).filter fun b => s.a.getLsbD b && !s.soundLatch1.getLsbD b).map
               fun b => .play b }))

/-- R160, R162, R163: OUT 5 likewise, bits 0..4 to samples 4..8. -/
def Obligations.SoundBank2Write : Prop :=
  (∀ p : Params, p.opcIn ≠ p.opcOut → decode p [p.opcOut, 0x05] = .ok (.out5, [])) ∧
  (∀ s : State, exec .out5 s = .next (State.stepPort
    { s with soundLatch2 := s.a,
             trace := s.trace ++ ((List.range 5).filter fun b => s.a.getLsbD b && !s.soundLatch2.getLsbD b).map
               fun b => .play (4 + b) }))

/-- R128, R129: OUT 6 stores A in the watchdog; OUT 7 is legal and has no effect. -/
def Obligations.WatchdogAndSparePort : Prop :=
  (∀ p : Params, p.opcIn ≠ p.opcOut →
    decode p [p.opcOut, 0x06] = .ok (.out6, []) ∧ decode p [p.opcOut, 0x07] = .ok (.out7, [])) ∧
  (∀ s : State, exec .out6 s = .next (State.stepPort { s with watchdog := s.a }) ∧
    exec .out7 s = .next s.stepPort)

/-- R127, R221: an IN from any port in 4..255, however its row is called, takes `FatalPortRead` (code 1) with the port and
the `pc` of the IN, and changes nothing else: A is not written and no `step()` runs. -/
def Obligations.IllegalPortReadFaults : Prop :=
  (∀ (s : State) (p : Byte),
    let faulted : Host.Outcome State Fault Refusal :=
      .next { s with status := .faulted (.portRead p s.pc), trace := s.trace ++ [.fatal 1 (.portRead p s.pc)] }
    ((Instr.inIllegal4to7 p).wf = true → exec (.inIllegal4to7 p) s = faulted) ∧
    ((Instr.inIllegal8to15 p).wf = true → exec (.inIllegal8to15 p) s = faulted) ∧
    ((Instr.inIllegal16to31 p).wf = true → exec (.inIllegal16to31 p) s = faulted) ∧
    ((Instr.inIllegal32to63 p).wf = true → exec (.inIllegal32to63 p) s = faulted) ∧
    ((Instr.inIllegal64to127 p).wf = true → exec (.inIllegal64to127 p) s = faulted) ∧
    ((Instr.inIllegal128to255 p).wf = true → exec (.inIllegal128to255 p) s = faulted)) ∧
  (∀ (c : Params) (p : Byte), 4 ≤ p.toNat → ∃ i, decode c [c.opcIn, p] = .ok (i, []) ∧
    ∀ s : State, exec i s =
      .next { s with status := .faulted (.portRead p s.pc), trace := s.trace ++ [.fatal 1 (.portRead p s.pc)] })

/-- R130, R221: an OUT to port 0, 1 or 8..255 takes `FatalPortWrite` (code 2) with the port, the `pc` of the OUT and A, and
changes nothing else. -/
def Obligations.IllegalPortWriteFaults : Prop :=
  (∀ (s : State) (p : Byte),
    let faulted : Host.Outcome State Fault Refusal :=
      .next { s with status := .faulted (.portWrite p s.pc s.a),
                     trace := s.trace ++ [.fatal 2 (.portWrite p s.pc s.a)] }
    ((Instr.outIllegal0to1 p).wf = true → exec (.outIllegal0to1 p) s = faulted) ∧
    ((Instr.outIllegal8to15 p).wf = true → exec (.outIllegal8to15 p) s = faulted) ∧
    ((Instr.outIllegal16to31 p).wf = true → exec (.outIllegal16to31 p) s = faulted) ∧
    ((Instr.outIllegal32to63 p).wf = true → exec (.outIllegal32to63 p) s = faulted) ∧
    ((Instr.outIllegal64to127 p).wf = true → exec (.outIllegal64to127 p) s = faulted) ∧
    ((Instr.outIllegal128to255 p).wf = true → exec (.outIllegal128to255 p) s = faulted)) ∧
  (∀ (c : Params) (p : Byte), c.opcIn ≠ c.opcOut → p.toNat < 2 ∨ 8 ≤ p.toNat →
    ∃ i, decode c [c.opcOut, p] = .ok (i, []) ∧
    ∀ s : State, exec i s =
      .next { s with status := .faulted (.portWrite p s.pc s.a),
                     trace := s.trace ++ [.fatal 2 (.portWrite p s.pc s.a)] })

/-- R131, R49, R38, R47, R48: what no port instruction changes, and which one instruction changes each register. The CPU's
flags, registers and halt state stay wherever the engine runs (is not halted), and every byte of memory reads as before.
That A, `pc` and memory stay through the step of a halted engine is the model's reading of R259 (log entry 5), and that the
flags are part of `cpuRest` is log entry 23. -/
def Obligations.PortInstructionFrame : Prop :=
  ∀ (i : Instr) (s t : State), exec i s = .next t →
    (t.params = s.params ∧ t.switch0 = s.switch0 ∧ t.switch1 = s.switch1 ∧ t.switch2 = s.switch2 ∧
      t.cursor = s.cursor ∧ t.framebuffer = s.framebuffer ∧ t.phase = s.phase) ∧
    (∀ addr, Memory.read t.mem addr = Memory.read s.mem addr) ∧
    (i ≠ .in0 → i ≠ .in1 → i ≠ .in2 → i ≠ .in3 → i.wf = true → t.a = s.a) ∧
    (i ≠ .out2 → i.wf = true → t.shiftAmount = s.shiftAmount) ∧
    (i ≠ .out4 → i.wf = true → t.shiftData = s.shiftData) ∧
    (i ≠ .in3 → i.wf = true → t.shiftOut = s.shiftOut) ∧
    (i ≠ .out3 → i.wf = true → t.soundLatch1 = s.soundLatch1) ∧
    (i ≠ .out5 → i.wf = true → t.soundLatch2 = s.soundLatch2) ∧
    (i ≠ .out6 → i.wf = true → t.watchdog = s.watchdog) ∧
    ((i.cls = .input ∧ i.port.toNat < 4 ∨ i.cls = .output ∧ 2 ≤ i.port.toNat ∧ i.port.toNat < 8) →
      t.status = s.status ∧ (i ≠ .out3 → i ≠ .out5 → i.wf = true → t.trace = s.trace)) ∧
    (s.cpuHalted = false → t.cpuFlags = s.cpuFlags ∧ t.cpuRest = s.cpuRest ∧ t.cpuHalted = s.cpuHalted) ∧
    (s.cpuHalted = true → t.pc = s.pc)

/-- R144, first and second sentence: two loads determine the register, from any prior state. (What the rule says of a second
load that changes nothing is log entry 21.) -/
def Obligations.TwoLoadsDetermineRegister : Prop :=
  ∀ (s t u : State) (v1 v2 : Byte),
    exec .out4 { s with a := v1 } = .next t → exec .out4 { t with a := v2 } = .next u →
    u.shiftData = (v2 ++ v1 : BitVec (8 + 8)) ∧
    (v1 = v2 → (u.shiftData = t.shiftData ↔ s.shiftData.toNat / 256 = v1.toNat))

/-- R145: the window of two loads. -/
def Obligations.WindowOfTwoLoads : Prop :=
  ∀ (s t u w r : State) (v1 v2 n : Byte), n.toNat ≤ 7 →
    exec .out4 { s with a := v1 } = .next t → exec .out4 { t with a := v2 } = .next u →
    exec .out2 { u with a := n } = .next w → exec .in3 w = .next r →
    r.a = (v2 <<< n.toNat) ||| (v1 >>> (8 - n.toNat))

/-- R146: the order of an OUT 2 and an OUT 4 does not change the next IN 3, and IN 3 may be repeated. -/
def Obligations.ShiftRegisterWritesCommute : Prop :=
  (∀ (s t u w t' u' w' : State) (x y : Byte),
    exec .out2 { s with a := x } = .next t → exec .out4 { t with a := y } = .next u → exec .in3 u = .next w →
    exec .out4 { s with a := y } = .next t' → exec .out2 { t' with a := x } = .next u' → exec .in3 u' = .next w' →
    w.a = w'.a) ∧
  (∀ s t u : State, exec .in3 s = .next t → exec .in3 t = .next u →
    u.a = t.a ∧ t.shiftData = s.shiftData ∧ t.shiftAmount = s.shiftAmount)

/-- R51, R35, R257: after an IN 3 the cache is the window; a step that leaves the shift register and the offset alone keeps
it so. -/
def Obligations.ShiftCacheFreshUntilWrite : Prop :=
  (∀ s t : State, exec .in3 s = .next t → t.shiftOut = shiftWindow t.shiftData t.shiftAmount ∧ t.a = t.shiftOut) ∧
  (∀ s t : State, step s = .next t → s.shiftOut = shiftWindow s.shiftData s.shiftAmount →
    t.shiftData = s.shiftData → t.shiftAmount = s.shiftAmount →
    t.shiftOut = shiftWindow t.shiftData t.shiftAmount)

/-- R165: on both banks a repeated write of one value is silent, and a bit written 1, 0, 1 from a latch with that bit 0
requests its sample exactly twice, at the first and at the third write, whatever the other bits of the three bytes are. -/
def Obligations.SoundsOnlyOnRise : Prop :=
  (∀ s t u : State,
    (exec .out3 s = .next t → exec .out3 t = .next u → u.trace = t.trace ∧ u.soundLatch1 = t.soundLatch1) ∧
    (exec .out5 s = .next t → exec .out5 t = .next u → u.trace = t.trace ∧ u.soundLatch2 = t.soundLatch2)) ∧
  (∀ (s t u w : State) (x y z : Byte) (k : Nat), k < 4 → s.soundLatch1.getLsbD k = false →
    x.getLsbD k = true → y.getLsbD k = false → z.getLsbD k = true →
    exec .out3 { s with a := x } = .next t → exec .out3 { t with a := y } = .next u →
    exec .out3 { u with a := z } = .next w →
    t.trace.count (.play k) = s.trace.count (.play k) + 1 ∧ u.trace.count (.play k) = t.trace.count (.play k) ∧
    w.trace.count (.play k) = u.trace.count (.play k) + 1) ∧
  (∀ (s t u w : State) (x y z : Byte) (k : Nat), k < 5 → s.soundLatch2.getLsbD k = false →
    x.getLsbD k = true → y.getLsbD k = false → z.getLsbD k = true →
    exec .out5 { s with a := x } = .next t → exec .out5 { t with a := y } = .next u →
    exec .out5 { u with a := z } = .next w →
    t.trace.count (.play (4 + k)) = s.trace.count (.play (4 + k)) + 1 ∧
    u.trace.count (.play (4 + k)) = t.trace.count (.play (4 + k)) ∧
    w.trace.count (.play (4 + k)) = u.trace.count (.play (4 + k)) + 1)

/-- R258, R259: while the engine is halted before an OUT 4, every step's intercept loads A again at the same `pc`. That A
and memory stay through a halted step is the model's reading (log entry 5). -/
def Obligations.HaltedEngineRepeatsIntercept : Prop :=
  ∀ s t u : State, s.cpuHalted = true → exec .out4 s = .next t → exec .out4 t = .next u →
    t.pc = s.pc ∧ t.a = s.a ∧ t.mem = s.mem ∧ u.shiftData = (s.a ++ s.a : BitVec (8 + 8))

/-! ### The frame scheduler -/

/-- R61, R101, R103, R105, R120: in a burst below its threshold, when the bytes at `pc` and `pc + 1` (mod 2^P_ADDR_BITS)
decode to an instruction, the step is that instruction's `exec`; the CPU's dispatch and the cycle count are in it. -/
def Obligations.StepRunsDecodedInstruction : Prop :=
  ∀ (s : State) (i : Instr), s.status = .running →
    (s.phase = .burst1 ∧ s.cyc < s.params.half ∨ s.phase = .burst2 ∧ s.cyc < s.params.frameCycles) →
    decode s.params [Memory.read s.mem s.pc, Memory.read s.mem ((s.pc + 1) % 2 ^ s.params.addrBits)] = .ok (i, []) →
    step s = exec i s

/-- R80, R120, R242, R244: an opcode of class `Other` passes to the CPU: the step is the CPU engine's answer alone, and no
state of the block but the cycle count moves. The remainders that keep the answer inside the machine (log entry 18), what a
halted step leaves (log entry 5) and the counter `draws` (log entry 7) are the model's choice. -/
def Obligations.OtherOpcodePassesThrough : Prop :=
  ∀ s : State, s.status = .running →
    (s.phase = .burst1 ∧ s.cyc < s.params.half ∨ s.phase = .burst2 ∧ s.cyc < s.params.frameCycles) →
    Memory.read s.mem s.pc ≠ s.params.opcIn → Memory.read s.mem s.pc ≠ s.params.opcOut →
    let ans := Config.cpuStep s.draws s.cpuView
    (s.cpuHalted = false →
      step s = .next { s with a := ans.a, pc := ans.pc % 2 ^ s.params.addrBits, cpuHalted := ans.halted,
                              cpuRest := ans.rest, mem := Memory.writeAll s.mem s.params.memSize ans.writes,
                              cyc := s.cyc + ans.cycles, draws := s.draws + 1 }) ∧
    (s.cpuHalted = true →
      step s = .next { s with cpuHalted := ans.halted, cpuRest := ans.rest, cyc := s.cyc + ans.cycles,
                              draws := s.draws + 1 })

/-- R103, R105, R108, R110: an iteration of a burst stays in its phase and counts what `step()` returned, which may be any
number; a fault counts nothing. No other step counts cycles: only an iteration that starts below the threshold does. -/
def Obligations.BurstCountsStepCycles : Prop :=
  (∀ s : State, s.status = .running →
    (s.phase = .burst1 ∧ s.cyc < s.params.half ∨ s.phase = .burst2 ∧ s.cyc < s.params.frameCycles) →
    ∃ t, step s = .next t ∧ t.phase = s.phase ∧
      ((t.status = .running ∧
          t.cyc = s.cyc + (Config.cpuStep s.draws
            { s.cpuView with a := if s.opcodeByte = s.params.opcIn then t.a else s.a }).cycles) ∨
        ((∃ info, t.status = .faulted info) ∧ t.cyc = s.cyc))) ∧
  (∀ s t : State, step s = .next t →
    ¬ (s.phase = .burst1 ∧ s.cyc < s.params.half ∨ s.phase = .burst2 ∧ s.cyc < s.params.frameCycles) →
    t.cyc = s.cyc ∨ (s.phase = .poll ∧ t.phase = .burst1 ∧ t.cyc = 0))

/-- R101, R103, R105: a burst tests its threshold first, and ends with no instruction run. -/
def Obligations.BurstEndsAtThreshold : Prop :=
  ∀ s : State, s.status = .running →
    (s.phase = .burst1 → s.params.half ≤ s.cyc → step s = .next { s with phase := .deliver }) ∧
    (s.phase = .burst2 → s.params.frameCycles ≤ s.cyc → step s = .next { s with phase := .decode })

/-- R104, R225, R228: the delivery injects the cursor's vector, flips the cursor, and counts no cycle; what the CPU does with
the call is its own answer (log entry 6). The remainders (log entry 18) and the counter `draws` (log entry 7) are the
model's choice. -/
def Obligations.InterruptDelivery : Prop :=
  ∀ s : State, s.status = .running → s.phase = .deliver →
    let v := if s.cursor = .first then s.params.vecFirst else s.params.vecSecond
    let ans := Config.cpuInject s.draws v s.cpuView
    step s = .next { s with trace := s.trace ++ [.inject v],
                            cursor := if s.cursor = .first then .second else .first,
                            phase := .burst2,
                            a := ans.a, pc := ans.pc % 2 ^ s.params.addrBits, cpuHalted := ans.halted,
                            cpuRest := ans.rest, mem := Memory.writeAll s.mem s.params.memSize ans.writes,
                            draws := s.draws + 1 }

/-- R106, R41, R187: the decode phase publishes the decoded window, packed, and goes to `Poll`; each colour is packed as its
parameter, by reference `0x00RRGGBB`. The framebuffer is kept four-valued, as R187 allows (log entry 15). -/
def Obligations.DecodePublishesFrame : Prop :=
  (∀ s : State, s.status = .running → s.phase = .decode →
    step s = .next { s with framebuffer := decodeFrame s.params s.mem, phase := .poll,
                            trace := s.trace ++
                              [.publish ((decodeFrame s.params s.mem).map (packColour s.params))] }) ∧
  (∀ p : Params, packColour p .black = p.rgbBlack ∧ packColour p .green = p.rgbGreen ∧
    packColour p .red = p.rgbRed ∧ packColour p .white = p.rgbWhite) ∧
  packColour referenceParams .black = 0x000000 ∧ packColour referenceParams .green = 0x00FF00 ∧
  packColour referenceParams .red = 0xFF0000 ∧ packColour referenceParams .white = 0xFFFFFF

/-- R107, R102, R206, R241: the poll applies the bindings, then exits if the exit key is held or the surface is closed, and
starts the next frame with `cyc = 0` otherwise. The answers are the free values of log entry 8, and the counter `draws` is
the model's own (log entry 7). -/
def Obligations.PollEndsFrame : Prop :=
  ∀ s : State, s.status = .running → s.phase = .poll →
    let held := Config.keyDown s.draws
    let sw := applyBindings held s.params.bindings (s.switch1, s.switch2)
    ((held s.params.exitKey = true ∨ Config.surfaceOpen s.draws = false) ∧
      step s = .next { s with switch1 := sw.1, switch2 := sw.2, draws := s.draws + 1,
                              status := .exited 0, trace := s.trace ++ [.exit 0] }) ∨
    ((held s.params.exitKey = false ∧ Config.surfaceOpen s.draws = true) ∧
      step s = .next { s with switch1 := sw.1, switch2 := sw.2, draws := s.draws + 1,
                              phase := .burst1, cyc := 0 })

/-- R44, R101, R132, R220, R222, R238: no transition fires in an `Exited` or `Faulted` state; the machine is stuck there
(the model's step answers a fault, log entry 14). From every running state a transition fires. -/
def Obligations.TerminalStatusStops : Prop :=
  ∀ s : State,
    (∀ code, s.status = .exited code → step s = .fault (.runExited code)) ∧
    (∀ info, s.status = .faulted info → step s = .fault (.runFaulted info)) ∧
    (s.status = .running → ∃ t, step s = .next t)

/-- R70, R101, R113: the phases come in their fixed order and in no other. The loop is left only from `Poll` by an exit, or
by a fault in a burst: every other step ends running. -/
def Obligations.PhasesInOrder : Prop :=
  ∀ s t : State, step s = .next t →
    (s.phase = .burst1 → t.phase = .burst1 ∨ t.phase = .deliver) ∧
    (s.phase = .deliver → t.phase = .burst2) ∧
    (s.phase = .burst2 → t.phase = .burst2 ∨ t.phase = .decode) ∧
    (s.phase = .decode → t.phase = .poll) ∧
    (s.phase = .poll → (t.phase = .burst1 ∧ t.status = .running) ∨ (t.phase = .poll ∧ t.status = .exited 0)) ∧
    (s.phase ≠ .poll → t.status = .running ∨
      ((s.phase = .burst1 ∨ s.phase = .burst2) ∧ t.phase = s.phase ∧ ∃ info, t.status = .faulted info))

/-- R102, R252: every frame after the first starts with `cyc = 0`, so nothing past B is carried over, and `cyc` falls at no
other step. -/
def Obligations.CyclesResetOnlyAtFrameStart : Prop :=
  ∀ s t : State, step s = .next t →
    (s.phase = .poll → (t.phase = .burst1 ∧ t.cyc = 0) ∨ (t.phase = .poll ∧ t.status = .exited 0)) ∧
    (s.cyc ≤ t.cyc ∨ (s.phase = .poll ∧ t.phase = .burst1 ∧ t.cyc = 0))

/-- R220, R226, R227: a port fault in a burst is precise and ends the run: everything but the status and the trace is as it
was when the intercept began, one `Fatal` is emitted, and the next step fires nothing (the model's step answers a fault,
log entry 14). -/
def Obligations.FaultIsPreciseAndTerminal : Prop :=
  ∀ (s t : State) (info : FatalInfo), step s = .next t → t.status = .faulted info →
    t = { s with status := .faulted info, trace := s.trace ++ [.fatal info.code info] } ∧
    step t = .fault (.runFaulted info) ∧
    (s.phase = .burst1 ∨ s.phase = .burst2)

/-- R107, R206, R241: a run exits only from phase `Poll`, with code 0, and there exactly when the exit key is held or the
surface is closed. The surface's answers are arguments here, so that both outcomes are reached; the step takes them from the
free values of log entry 8. -/
def Obligations.ExitOnlyAtPoll : Prop :=
  (∀ s t : State, step s = .next t → s.phase ≠ .poll → ∀ code, t.status ≠ .exited code) ∧
  (∀ s : State, s.status = .running → s.phase = .poll →
    step s = .next (s.pollWith (Config.keyDown s.draws) (Config.surfaceOpen s.draws))) ∧
  (∀ (s : State) (held : Key → Bool) (isOpen : Bool), s.status = .running →
    (held s.params.exitKey = true ∨ isOpen = false →
      (s.pollWith held isOpen).status = .exited 0 ∧ (s.pollWith held isOpen).trace = s.trace ++ [.exit 0]) ∧
    (held s.params.exitKey = false → isOpen = true →
      (s.pollWith held isOpen).status = .running ∧ (s.pollWith held isOpen).trace = s.trace ∧
      (s.pollWith held isOpen).phase = .burst1 ∧ (s.pollWith held isOpen).cyc = 0))

/-- R48, R242: the block never writes the memory store. What is left, an opcode of class `Other` executed by the CPU engine
and an injection, writes what the engine answers (`OtherOpcodePassesThrough`, `InterruptDelivery`). That a halted engine's
step writes no memory is the model's reading of R259 (log entry 5). -/
def Obligations.BlockNeverWritesMemory : Prop :=
  (∀ (i : Instr) (s t : State), exec i s = .next t → t.mem = s.mem) ∧
  (∀ s t : State, step s = .next t →
    (s.phase = .decode ∨ s.phase = .poll → t.mem = s.mem) ∧
    (s.phase = .burst1 ∨ s.phase = .burst2 →
      s.cpuHalted = true ∨ (∃ i, s.fetch = .ok i) ∨ t.phase ≠ s.phase → t.mem = s.mem))

/-- R45: the trace is only appended to. -/
def Obligations.TraceOnlyGrows : Prop :=
  ∀ s t : State, step s = .next t → s.trace <+: t.trace

/-- R46: no step changes a parameter (that the state carries them is the model's choice, log entry 1). -/
def Obligations.ParametersNeverChange : Prop :=
  ∀ s t : State, step s = .next t → t.params = s.params

/-- R166: a sample is requested only by an OUT 3 or an OUT 5 that the step runs. -/
def Obligations.SoundOnlyFromSoundPorts : Prop :=
  ∀ (s t : State) (n : Nat), step s = .next t → (t.trace.count (.play n) ≠ s.trace.count (.play n)) →
    (s.phase = .burst1 ∨ s.phase = .burst2) ∧
    ((s.fetch = .ok .out3 ∧ n ≤ 3) ∨ (s.fetch = .ok .out5 ∧ 4 ≤ n ∧ n ≤ 8))

/-! ### Invariants over every step -/

/-- Every step keeps the legal states legal: R33 and R51 for the window offset and `switch0`, R41 for the frame's size, R60 and
R47 for the store and `pc` (kept inside by the remainders of log entries 17 and 18). -/
def Obligations.StepKeepsLegalState : Prop :=
  ∀ s t : State, s.Inv → step s = .next t → t.Inv

/-- R108: budgets are floors. -/
def Obligations.StepKeepsSchedule : Prop :=
  ∀ s t : State, s.ScheduleInv → step s = .next t → t.ScheduleInv

/-- R109: the injected vectors alternate strictly, starting from `P_VEC_FIRST`. -/
def Obligations.InterruptVectorsAlternate : Prop :=
  ∀ s t : State, s.AlternationInv → step s = .next t → t.AlternationInv

/-- R100, R109, R226: each frame makes exactly one `Inject` and one `Publish`, in that order. -/
def Obligations.OnePublishPerInterrupt : Prop :=
  ∀ s t : State, s.FrameCountInv → step s = .next t → t.FrameCountInv

/-- R220, R238, R241: the trace holds a terminal event exactly when the run has ended, and there it is the last event. -/
def Obligations.TerminalEventEndsTrace : Prop :=
  ∀ s t : State, s.EndInv → step s = .next t → t.EndInv

/-- R42, R166: sample 9 is never requested. -/
def Obligations.OnlySamplesZeroToEight : Prop :=
  ∀ s t : State, s.PlayInv → step s = .next t → t.PlayInv

/-- R32, R204: a switch bit that no binding names keeps its power-up value. -/
def Obligations.UnboundSwitchBitsKept : Prop :=
  ∀ s t : State, s.UnboundInv → step s = .next t → t.UnboundInv

/-! ### The input mapper -/

/-- R201, R202: after a poll, a bit that the list names is 1 exactly when the key of the LAST entry for it is held; every
other bit is as before. -/
def Obligations.PollDrivesBoundBits : Prop :=
  ∀ (held : Key → Bool) (bindings : List Binding) (sw : Byte × Byte) (b : Fin 8),
    let out := applyBindings held bindings sw
    (out.1.getLsbD b.val =
      match (bindings.filter fun e => e.port = .port1 ∧ e.bit = b).getLast? with
      | some e => held e.key
      | none => sw.1.getLsbD b.val) ∧
    (out.2.getLsbD b.val =
      match (bindings.filter fun e => e.port = .port2 ∧ e.bit = b).getLast? with
      | some e => held e.key
      | none => sw.2.getLsbD b.val)

/-! ### The video decoder -/

/-- R181, R182, R183: the bit-to-pixel map is a bijection from the window's bits onto the frame's pixels, and
`(pixelByte, pixelBit)` is its inverse. -/
def Obligations.PixelMapIsBijection : Prop :=
  ∀ w : Nat,
    (∀ i k, i < w * 32 → k < 8 →
      nativeY i < w ∧ nativeX i k < 256 ∧
      pixelByte (nativeY i) (255 - nativeX i k) = i ∧ pixelBit (255 - nativeX i k) = k) ∧
    (∀ ox oy, ox < w → oy < 256 →
      pixelByte ox oy = 32 * ox + (255 - oy) / 8 ∧ pixelBit oy = (255 - oy) % 8 ∧
      pixelByte ox oy < w * 32 ∧ pixelBit oy < 8 ∧
      nativeY (pixelByte ox oy) = ox ∧ 255 - nativeX (pixelByte ox oy) (pixelBit oy) = oy)

/-- R180, R183, R186: the decoded frame has W·256 pixels, and bit `k` of window byte `i`, read at `P_VRAM_BASE + i`, is the
pixel in column `i div 32` and row `255 - (8 * (i mod 32) + k)`, coloured by place. -/
def Obligations.DecodedPixel : Prop :=
  ∀ (p : Params) (m : Memory),
    (decodeFrame p m).length = p.outW * 256 ∧
    ∀ i k, i < p.outW * 32 → k < 8 →
      (decodeFrame p m)[(255 - (8 * (i % 32) + k)) * p.outW + i / 32]? =
        some (colour p (i / 32) (255 - (8 * (i % 32) + k)) ((Memory.read m (p.vramBase + i)).getLsbD k))

/-- R183, R186: the decode procedure's two loops, run over any old framebuffer, give the frame that is decoded pixel by
pixel: every pixel is overwritten, and nothing of the old frame is left. -/
def Obligations.DecodeLoopEqualsFrame : Prop :=
  ∀ (p : Params) (m : Memory) (old : List Colour), old.length = p.outW * 256 →
    decodeLoop p m old = decodeFrame p m

/-- R184, R185: the colour zones of the reference parameters, in output coordinates. -/
def Obligations.ReferenceColourZones : Prop :=
  ∀ ox oy : Nat, ox < 224 → oy < 256 →
    colour referenceParams ox oy false = .black ∧
    colour referenceParams ox oy true =
      (if oy ≤ 31 then .white
       else if oy ≤ 51 then .red
       else if oy ≤ 191 then .white
       else if oy ≤ 239 then .green
       else if 16 ≤ ox ∧ ox ≤ 133 then .green
       else .white)

/-- R188: an all-zero window decodes to an all-background framebuffer. -/
def Obligations.AllZeroWindowIsBlack : Prop :=
  ∀ (p : Params) (m : Memory), (∀ i < p.vramSize, Memory.read m (p.vramBase + i) = 0) →
    decodeFrame p m = List.replicate (p.outW * 256) .black

/-- R189, R190: the published frame is a function of the window's bytes alone: two machines with the same parameters and the
same window publish the same frame, whatever else they hold. -/
def Obligations.FrameShowsWindowOnly : Prop :=
  ∀ s1 s2 t1 t2 : State, s1.phase = .decode → s2.phase = .decode → s1.params = s2.params →
    (∀ i < s1.params.vramSize,
      Memory.read s1.mem (s1.params.vramBase + i) = Memory.read s2.mem (s1.params.vramBase + i)) →
    step s1 = .next t1 → step s2 = .next t2 →
    t1.framebuffer = t2.framebuffer ∧
    ∃ e, t1.trace = s1.trace ++ [e] ∧ t2.trace = s2.trace ++ [e]

/-! ### What no rule reads -/

/-- R35, R37, R131, R190: the window cache, the watchdog and the last framebuffer have no influence: a step from the state
with all three blanked out is the same step, up to those three. -/
def Obligations.UnreadStateIsUnobservable : Prop :=
  ∀ s : State, mapNext State.hideUnread (step s.hideUnread) = mapNext State.hideUnread (step s)

/-! ### The memory store, its address space, and the colour of any place -/

/-- R70, R73, R74, R244: a byte that the CPU engine wrote is the byte every later intercept and decode reads, the last write
of a call winning, and every address it did not write reads as before. The addresses are taken mod P_MEM_SIZE (log entry
18), and the answers are the free values of log entries 3 and 6. -/
def Obligations.EngineWritesAreReadBack : Prop :=
  (∀ (m : Memory) (size : Nat) (ws : List (Nat × Byte)) (x : Nat), Memory.wf m →
    Memory.read (Memory.writeAll m size ws) x =
      match (ws.filter fun w => w.1 % size = x).getLast? with
      | some w => w.2
      | none => Memory.read m x) ∧
  (∀ s : State, s.Inv → s.status = .running → s.cpuHalted = false →
    (s.phase = .burst1 ∧ s.cyc < s.params.half ∨ s.phase = .burst2 ∧ s.cyc < s.params.frameCycles) →
    Memory.read s.mem s.pc ≠ s.params.opcIn → Memory.read s.mem s.pc ≠ s.params.opcOut →
    ∃ t, step s = .next t ∧ ∀ x, Memory.read t.mem x =
      match ((Config.cpuStep s.draws s.cpuView).writes.filter fun w => w.1 % s.params.memSize = x).getLast? with
      | some w => w.2
      | none => Memory.read s.mem x) ∧
  (∀ s : State, s.Inv → s.status = .running → s.phase = .deliver →
    ∃ t, step s = .next t ∧ ∀ x, Memory.read t.mem x =
      match ((Config.cpuInject s.draws s.vector s.cpuView).writes.filter fun w =>
          w.1 % s.params.memSize = x).getLast? with
      | some w => w.2
      | none => Memory.read s.mem x)

/-- R60, R61, R62, R64: the block reads no byte whose address has more than P_ADDR_BITS bits: two stores that agree below
2^P_ADDR_BITS decode to one frame, and are fetched from alike. That the parameters keep the window there is DEDUCED (log
entry 26). -/
def Obligations.BlockReadsAddressSpaceOnly : Prop :=
  ∀ (p : Params) (m1 m2 : Memory), p.wf →
    (∀ k < 2 ^ p.addrBits, Memory.read m1 k = Memory.read m2 k) →
    decodeFrame p m1 = decodeFrame p m2 ∧
    ∀ s : State, s.params = p → s.pc < 2 ^ p.addrBits →
      ({ s with mem := m1 } : State).fetch = ({ s with mem := m2 } : State).fetch

/-- R184: where each colour appears, for all parameters that meet their constraints. With `x = 255 - oy` the native column,
`x ≤ n` is written `255 ≤ oy + n`, and `n ≤ x` is written `oy + n ≤ 255`. -/
def Obligations.ColourByPlace : Prop :=
  ∀ (p : Params) (ox oy : Nat) (lit : Bool), p.wf → ox < p.outW → oy < 256 →
    (colour p ox oy lit = .black ↔ lit = false) ∧
    (colour p ox oy lit = .green ↔ lit = true ∧ 255 ≤ oy + p.greenXHi ∧
      (255 ≤ oy + p.edgeXHi → p.edgeYLo ≤ ox ∧ ox ≤ p.edgeYHi)) ∧
    (colour p ox oy lit = .red ↔ lit = true ∧ oy + p.redXLo ≤ 255 ∧ 255 ≤ oy + p.redXHi) ∧
    (colour p ox oy lit = .white ↔ lit = true ∧
      (255 ≤ oy + p.edgeXHi ∧ (ox < p.edgeYLo ∨ p.edgeYHi < ox) ∨
        oy + p.greenXHi < 255 ∧ ¬ (oy + p.redXLo ≤ 255 ∧ 255 ≤ oy + p.redXHi)))
end

