-- ==== Sys2Proof/Laws/Decode.lean ====
section
/-! SUPPORT. What the decoder can answer, said once. -/

namespace Sys2Proof

/-- The IN map gives a well-formed IN of its port (30_encoding.md R85). -/
theorem decodeIn_row : ∀ port : Byte,
    (decodeIn port).wf = true ∧ (decodeIn port).cls = .input ∧ (decodeIn port).port = port := by decide

/-- The OUT map gives a well-formed OUT of its port (R85). -/
theorem decodeOut_row : ∀ port : Byte,
    (decodeOut port).wf = true ∧ (decodeOut port).cls = .output ∧ (decodeOut port).port = port := by decide

theorem classify_opcIn (p : Params) : classify p p.opcIn = .input := by simp [classify]

theorem classify_opcOut (p : Params) (h : p.opcIn ≠ p.opcOut) : classify p p.opcOut = .output := by
  simp [classify, Ne.symm h]

theorem classify_other (p : Params) {op : Byte} (h1 : op ≠ p.opcIn) (h2 : op ≠ p.opcOut) : classify p op = .other := by
  simp [classify, h1, h2]

/-- What the decoder of a pair can answer (R80, R85). -/
theorem decodePair_cases (p : Params) (op port : Byte) :
    (op = p.opcIn ∧ decodePair p op port = .ok (decodeIn port)) ∨
    (op ≠ p.opcIn ∧ op = p.opcOut ∧ decodePair p op port = .ok (decodeOut port)) ∨
    (op ≠ p.opcIn ∧ op ≠ p.opcOut ∧ decodePair p op port = .error (.otherOpcode op)) := by
  by_cases h1 : op = p.opcIn
  · exact .inl ⟨h1, by simp [decodePair, classify, h1]⟩
  · by_cases h2 : op = p.opcOut
    · exact .inr (.inl ⟨h1, h2, by simp only [decodePair, classify, if_neg h1, if_pos h2]⟩)
    · exact .inr (.inr ⟨h1, h2, by simp only [decodePair, classify, if_neg h1, if_neg h2]⟩)

end Sys2Proof
end

