-- ==== Sys2Proof/Laws/State.lean ====
section
/-! SUPPORT. Each named update of the state, field by field, true by definition. -/

namespace Sys2Proof.Machine

/-! `emit` -/

@[simp] theorem State.emit_switch0 (s : State) (e : Event) : (s.emit e).switch0 = s.switch0 := rfl
@[simp] theorem State.emit_switch1 (s : State) (e : Event) : (s.emit e).switch1 = s.switch1 := rfl
@[simp] theorem State.emit_switch2 (s : State) (e : Event) : (s.emit e).switch2 = s.switch2 := rfl
@[simp] theorem State.emit_shiftAmount (s : State) (e : Event) : (s.emit e).shiftAmount = s.shiftAmount := rfl
@[simp] theorem State.emit_shiftData (s : State) (e : Event) : (s.emit e).shiftData = s.shiftData := rfl
@[simp] theorem State.emit_shiftOut (s : State) (e : Event) : (s.emit e).shiftOut = s.shiftOut := rfl
@[simp] theorem State.emit_soundLatch1 (s : State) (e : Event) : (s.emit e).soundLatch1 = s.soundLatch1 := rfl
@[simp] theorem State.emit_soundLatch2 (s : State) (e : Event) : (s.emit e).soundLatch2 = s.soundLatch2 := rfl
@[simp] theorem State.emit_watchdog (s : State) (e : Event) : (s.emit e).watchdog = s.watchdog := rfl
@[simp] theorem State.emit_cursor (s : State) (e : Event) : (s.emit e).cursor = s.cursor := rfl
@[simp] theorem State.emit_framebuffer (s : State) (e : Event) : (s.emit e).framebuffer = s.framebuffer := rfl
@[simp] theorem State.emit_phase (s : State) (e : Event) : (s.emit e).phase = s.phase := rfl
@[simp] theorem State.emit_cyc (s : State) (e : Event) : (s.emit e).cyc = s.cyc := rfl
@[simp] theorem State.emit_status (s : State) (e : Event) : (s.emit e).status = s.status := rfl
@[simp] theorem State.emit_trace (s : State) (e : Event) : (s.emit e).trace = s.trace ++ [e] := rfl
@[simp] theorem State.emit_a (s : State) (e : Event) : (s.emit e).a = s.a := rfl
@[simp] theorem State.emit_pc (s : State) (e : Event) : (s.emit e).pc = s.pc := rfl
@[simp] theorem State.emit_cpuHalted (s : State) (e : Event) : (s.emit e).cpuHalted = s.cpuHalted := rfl
@[simp] theorem State.emit_cpuRest (s : State) (e : Event) : (s.emit e).cpuRest = s.cpuRest := rfl
@[simp] theorem State.emit_mem (s : State) (e : Event) : (s.emit e).mem = s.mem := rfl
@[simp] theorem State.emit_params (s : State) (e : Event) : (s.emit e).params = s.params := rfl
@[simp] theorem State.emit_draws (s : State) (e : Event) : (s.emit e).draws = s.draws := rfl

/-! `raiseFatal` -/

@[simp] theorem State.raiseFatal_switch0 (s : State) (info : FatalInfo) : (s.raiseFatal info).switch0 = s.switch0 := rfl
@[simp] theorem State.raiseFatal_switch1 (s : State) (info : FatalInfo) : (s.raiseFatal info).switch1 = s.switch1 := rfl
@[simp] theorem State.raiseFatal_switch2 (s : State) (info : FatalInfo) : (s.raiseFatal info).switch2 = s.switch2 := rfl
@[simp] theorem State.raiseFatal_shiftAmount (s : State) (info : FatalInfo) : (s.raiseFatal info).shiftAmount = s.shiftAmount := rfl
@[simp] theorem State.raiseFatal_shiftData (s : State) (info : FatalInfo) : (s.raiseFatal info).shiftData = s.shiftData := rfl
@[simp] theorem State.raiseFatal_shiftOut (s : State) (info : FatalInfo) : (s.raiseFatal info).shiftOut = s.shiftOut := rfl
@[simp] theorem State.raiseFatal_soundLatch1 (s : State) (info : FatalInfo) : (s.raiseFatal info).soundLatch1 = s.soundLatch1 := rfl
@[simp] theorem State.raiseFatal_soundLatch2 (s : State) (info : FatalInfo) : (s.raiseFatal info).soundLatch2 = s.soundLatch2 := rfl
@[simp] theorem State.raiseFatal_watchdog (s : State) (info : FatalInfo) : (s.raiseFatal info).watchdog = s.watchdog := rfl
@[simp] theorem State.raiseFatal_cursor (s : State) (info : FatalInfo) : (s.raiseFatal info).cursor = s.cursor := rfl
@[simp] theorem State.raiseFatal_framebuffer (s : State) (info : FatalInfo) : (s.raiseFatal info).framebuffer = s.framebuffer := rfl
@[simp] theorem State.raiseFatal_phase (s : State) (info : FatalInfo) : (s.raiseFatal info).phase = s.phase := rfl
@[simp] theorem State.raiseFatal_cyc (s : State) (info : FatalInfo) : (s.raiseFatal info).cyc = s.cyc := rfl
@[simp] theorem State.raiseFatal_status (s : State) (info : FatalInfo) : (s.raiseFatal info).status = .faulted info := rfl
@[simp] theorem State.raiseFatal_trace (s : State) (info : FatalInfo) : (s.raiseFatal info).trace = s.trace ++ [.fatal info.code info] := rfl
@[simp] theorem State.raiseFatal_a (s : State) (info : FatalInfo) : (s.raiseFatal info).a = s.a := rfl
@[simp] theorem State.raiseFatal_pc (s : State) (info : FatalInfo) : (s.raiseFatal info).pc = s.pc := rfl
@[simp] theorem State.raiseFatal_cpuHalted (s : State) (info : FatalInfo) : (s.raiseFatal info).cpuHalted = s.cpuHalted := rfl
@[simp] theorem State.raiseFatal_cpuRest (s : State) (info : FatalInfo) : (s.raiseFatal info).cpuRest = s.cpuRest := rfl
@[simp] theorem State.raiseFatal_mem (s : State) (info : FatalInfo) : (s.raiseFatal info).mem = s.mem := rfl
@[simp] theorem State.raiseFatal_params (s : State) (info : FatalInfo) : (s.raiseFatal info).params = s.params := rfl
@[simp] theorem State.raiseFatal_draws (s : State) (info : FatalInfo) : (s.raiseFatal info).draws = s.draws := rfl

/-! `exitRun` -/

@[simp] theorem State.exitRun_switch0 (s : State) : (s.exitRun).switch0 = s.switch0 := rfl
@[simp] theorem State.exitRun_switch1 (s : State) : (s.exitRun).switch1 = s.switch1 := rfl
@[simp] theorem State.exitRun_switch2 (s : State) : (s.exitRun).switch2 = s.switch2 := rfl
@[simp] theorem State.exitRun_shiftAmount (s : State) : (s.exitRun).shiftAmount = s.shiftAmount := rfl
@[simp] theorem State.exitRun_shiftData (s : State) : (s.exitRun).shiftData = s.shiftData := rfl
@[simp] theorem State.exitRun_shiftOut (s : State) : (s.exitRun).shiftOut = s.shiftOut := rfl
@[simp] theorem State.exitRun_soundLatch1 (s : State) : (s.exitRun).soundLatch1 = s.soundLatch1 := rfl
@[simp] theorem State.exitRun_soundLatch2 (s : State) : (s.exitRun).soundLatch2 = s.soundLatch2 := rfl
@[simp] theorem State.exitRun_watchdog (s : State) : (s.exitRun).watchdog = s.watchdog := rfl
@[simp] theorem State.exitRun_cursor (s : State) : (s.exitRun).cursor = s.cursor := rfl
@[simp] theorem State.exitRun_framebuffer (s : State) : (s.exitRun).framebuffer = s.framebuffer := rfl
@[simp] theorem State.exitRun_phase (s : State) : (s.exitRun).phase = s.phase := rfl
@[simp] theorem State.exitRun_cyc (s : State) : (s.exitRun).cyc = s.cyc := rfl
@[simp] theorem State.exitRun_status (s : State) : (s.exitRun).status = .exited 0 := rfl
@[simp] theorem State.exitRun_trace (s : State) : (s.exitRun).trace = s.trace ++ [.exit 0] := rfl
@[simp] theorem State.exitRun_a (s : State) : (s.exitRun).a = s.a := rfl
@[simp] theorem State.exitRun_pc (s : State) : (s.exitRun).pc = s.pc := rfl
@[simp] theorem State.exitRun_cpuHalted (s : State) : (s.exitRun).cpuHalted = s.cpuHalted := rfl
@[simp] theorem State.exitRun_cpuRest (s : State) : (s.exitRun).cpuRest = s.cpuRest := rfl
@[simp] theorem State.exitRun_mem (s : State) : (s.exitRun).mem = s.mem := rfl
@[simp] theorem State.exitRun_params (s : State) : (s.exitRun).params = s.params := rfl
@[simp] theorem State.exitRun_draws (s : State) : (s.exitRun).draws = s.draws := rfl

/-! `setA` -/

@[simp] theorem State.setA_switch0 (s : State) (v : Byte) : (s.setA v).switch0 = s.switch0 := rfl
@[simp] theorem State.setA_switch1 (s : State) (v : Byte) : (s.setA v).switch1 = s.switch1 := rfl
@[simp] theorem State.setA_switch2 (s : State) (v : Byte) : (s.setA v).switch2 = s.switch2 := rfl
@[simp] theorem State.setA_shiftAmount (s : State) (v : Byte) : (s.setA v).shiftAmount = s.shiftAmount := rfl
@[simp] theorem State.setA_shiftData (s : State) (v : Byte) : (s.setA v).shiftData = s.shiftData := rfl
@[simp] theorem State.setA_shiftOut (s : State) (v : Byte) : (s.setA v).shiftOut = s.shiftOut := rfl
@[simp] theorem State.setA_soundLatch1 (s : State) (v : Byte) : (s.setA v).soundLatch1 = s.soundLatch1 := rfl
@[simp] theorem State.setA_soundLatch2 (s : State) (v : Byte) : (s.setA v).soundLatch2 = s.soundLatch2 := rfl
@[simp] theorem State.setA_watchdog (s : State) (v : Byte) : (s.setA v).watchdog = s.watchdog := rfl
@[simp] theorem State.setA_cursor (s : State) (v : Byte) : (s.setA v).cursor = s.cursor := rfl
@[simp] theorem State.setA_framebuffer (s : State) (v : Byte) : (s.setA v).framebuffer = s.framebuffer := rfl
@[simp] theorem State.setA_phase (s : State) (v : Byte) : (s.setA v).phase = s.phase := rfl
@[simp] theorem State.setA_cyc (s : State) (v : Byte) : (s.setA v).cyc = s.cyc := rfl
@[simp] theorem State.setA_status (s : State) (v : Byte) : (s.setA v).status = s.status := rfl
@[simp] theorem State.setA_trace (s : State) (v : Byte) : (s.setA v).trace = s.trace := rfl
@[simp] theorem State.setA_a (s : State) (v : Byte) : (s.setA v).a = v := rfl
@[simp] theorem State.setA_pc (s : State) (v : Byte) : (s.setA v).pc = s.pc := rfl
@[simp] theorem State.setA_cpuHalted (s : State) (v : Byte) : (s.setA v).cpuHalted = s.cpuHalted := rfl
@[simp] theorem State.setA_cpuRest (s : State) (v : Byte) : (s.setA v).cpuRest = s.cpuRest := rfl
@[simp] theorem State.setA_mem (s : State) (v : Byte) : (s.setA v).mem = s.mem := rfl
@[simp] theorem State.setA_params (s : State) (v : Byte) : (s.setA v).params = s.params := rfl
@[simp] theorem State.setA_draws (s : State) (v : Byte) : (s.setA v).draws = s.draws := rfl

/-! `shiftRead` -/

@[simp] theorem State.shiftRead_switch0 (s : State) : (s.shiftRead).switch0 = s.switch0 := rfl
@[simp] theorem State.shiftRead_switch1 (s : State) : (s.shiftRead).switch1 = s.switch1 := rfl
@[simp] theorem State.shiftRead_switch2 (s : State) : (s.shiftRead).switch2 = s.switch2 := rfl
@[simp] theorem State.shiftRead_shiftAmount (s : State) : (s.shiftRead).shiftAmount = s.shiftAmount := rfl
@[simp] theorem State.shiftRead_shiftData (s : State) : (s.shiftRead).shiftData = s.shiftData := rfl
@[simp] theorem State.shiftRead_shiftOut (s : State) : (s.shiftRead).shiftOut = shiftWindow s.shiftData s.shiftAmount := rfl
@[simp] theorem State.shiftRead_soundLatch1 (s : State) : (s.shiftRead).soundLatch1 = s.soundLatch1 := rfl
@[simp] theorem State.shiftRead_soundLatch2 (s : State) : (s.shiftRead).soundLatch2 = s.soundLatch2 := rfl
@[simp] theorem State.shiftRead_watchdog (s : State) : (s.shiftRead).watchdog = s.watchdog := rfl
@[simp] theorem State.shiftRead_cursor (s : State) : (s.shiftRead).cursor = s.cursor := rfl
@[simp] theorem State.shiftRead_framebuffer (s : State) : (s.shiftRead).framebuffer = s.framebuffer := rfl
@[simp] theorem State.shiftRead_phase (s : State) : (s.shiftRead).phase = s.phase := rfl
@[simp] theorem State.shiftRead_cyc (s : State) : (s.shiftRead).cyc = s.cyc := rfl
@[simp] theorem State.shiftRead_status (s : State) : (s.shiftRead).status = s.status := rfl
@[simp] theorem State.shiftRead_trace (s : State) : (s.shiftRead).trace = s.trace := rfl
@[simp] theorem State.shiftRead_a (s : State) : (s.shiftRead).a = s.a := rfl
@[simp] theorem State.shiftRead_pc (s : State) : (s.shiftRead).pc = s.pc := rfl
@[simp] theorem State.shiftRead_cpuHalted (s : State) : (s.shiftRead).cpuHalted = s.cpuHalted := rfl
@[simp] theorem State.shiftRead_cpuRest (s : State) : (s.shiftRead).cpuRest = s.cpuRest := rfl
@[simp] theorem State.shiftRead_mem (s : State) : (s.shiftRead).mem = s.mem := rfl
@[simp] theorem State.shiftRead_params (s : State) : (s.shiftRead).params = s.params := rfl
@[simp] theorem State.shiftRead_draws (s : State) : (s.shiftRead).draws = s.draws := rfl

/-! `portExecuted` -/

@[simp] theorem State.portExecuted_switch0 (s : State) (c : Nat) : (s.portExecuted c).switch0 = s.switch0 := rfl
@[simp] theorem State.portExecuted_switch1 (s : State) (c : Nat) : (s.portExecuted c).switch1 = s.switch1 := rfl
@[simp] theorem State.portExecuted_switch2 (s : State) (c : Nat) : (s.portExecuted c).switch2 = s.switch2 := rfl
@[simp] theorem State.portExecuted_shiftAmount (s : State) (c : Nat) : (s.portExecuted c).shiftAmount = s.shiftAmount := rfl
@[simp] theorem State.portExecuted_shiftData (s : State) (c : Nat) : (s.portExecuted c).shiftData = s.shiftData := rfl
@[simp] theorem State.portExecuted_shiftOut (s : State) (c : Nat) : (s.portExecuted c).shiftOut = s.shiftOut := rfl
@[simp] theorem State.portExecuted_soundLatch1 (s : State) (c : Nat) : (s.portExecuted c).soundLatch1 = s.soundLatch1 := rfl
@[simp] theorem State.portExecuted_soundLatch2 (s : State) (c : Nat) : (s.portExecuted c).soundLatch2 = s.soundLatch2 := rfl
@[simp] theorem State.portExecuted_watchdog (s : State) (c : Nat) : (s.portExecuted c).watchdog = s.watchdog := rfl
@[simp] theorem State.portExecuted_cursor (s : State) (c : Nat) : (s.portExecuted c).cursor = s.cursor := rfl
@[simp] theorem State.portExecuted_framebuffer (s : State) (c : Nat) : (s.portExecuted c).framebuffer = s.framebuffer := rfl
@[simp] theorem State.portExecuted_phase (s : State) (c : Nat) : (s.portExecuted c).phase = s.phase := rfl
@[simp] theorem State.portExecuted_cyc (s : State) (c : Nat) : (s.portExecuted c).cyc = s.cyc + c := rfl
@[simp] theorem State.portExecuted_status (s : State) (c : Nat) : (s.portExecuted c).status = s.status := rfl
@[simp] theorem State.portExecuted_trace (s : State) (c : Nat) : (s.portExecuted c).trace = s.trace := rfl
@[simp] theorem State.portExecuted_a (s : State) (c : Nat) : (s.portExecuted c).a = s.a := rfl
@[simp] theorem State.portExecuted_pc (s : State) (c : Nat) : (s.portExecuted c).pc = addrWrap s.params (s.pc + 2) := rfl
@[simp] theorem State.portExecuted_cpuHalted (s : State) (c : Nat) : (s.portExecuted c).cpuHalted = s.cpuHalted := rfl
@[simp] theorem State.portExecuted_cpuRest (s : State) (c : Nat) : (s.portExecuted c).cpuRest = s.cpuRest := rfl
@[simp] theorem State.portExecuted_mem (s : State) (c : Nat) : (s.portExecuted c).mem = s.mem := rfl
@[simp] theorem State.portExecuted_params (s : State) (c : Nat) : (s.portExecuted c).params = s.params := rfl
@[simp] theorem State.portExecuted_draws (s : State) (c : Nat) : (s.portExecuted c).draws = s.draws + 1 := rfl

/-! `haltedStep` -/

@[simp] theorem State.haltedStep_switch0 (s : State) (ans : CpuAnswer) : (s.haltedStep ans).switch0 = s.switch0 := rfl
@[simp] theorem State.haltedStep_switch1 (s : State) (ans : CpuAnswer) : (s.haltedStep ans).switch1 = s.switch1 := rfl
@[simp] theorem State.haltedStep_switch2 (s : State) (ans : CpuAnswer) : (s.haltedStep ans).switch2 = s.switch2 := rfl
@[simp] theorem State.haltedStep_shiftAmount (s : State) (ans : CpuAnswer) : (s.haltedStep ans).shiftAmount = s.shiftAmount := rfl
@[simp] theorem State.haltedStep_shiftData (s : State) (ans : CpuAnswer) : (s.haltedStep ans).shiftData = s.shiftData := rfl
@[simp] theorem State.haltedStep_shiftOut (s : State) (ans : CpuAnswer) : (s.haltedStep ans).shiftOut = s.shiftOut := rfl
@[simp] theorem State.haltedStep_soundLatch1 (s : State) (ans : CpuAnswer) : (s.haltedStep ans).soundLatch1 = s.soundLatch1 := rfl
@[simp] theorem State.haltedStep_soundLatch2 (s : State) (ans : CpuAnswer) : (s.haltedStep ans).soundLatch2 = s.soundLatch2 := rfl
@[simp] theorem State.haltedStep_watchdog (s : State) (ans : CpuAnswer) : (s.haltedStep ans).watchdog = s.watchdog := rfl
@[simp] theorem State.haltedStep_cursor (s : State) (ans : CpuAnswer) : (s.haltedStep ans).cursor = s.cursor := rfl
@[simp] theorem State.haltedStep_framebuffer (s : State) (ans : CpuAnswer) : (s.haltedStep ans).framebuffer = s.framebuffer := rfl
@[simp] theorem State.haltedStep_phase (s : State) (ans : CpuAnswer) : (s.haltedStep ans).phase = s.phase := rfl
@[simp] theorem State.haltedStep_cyc (s : State) (ans : CpuAnswer) : (s.haltedStep ans).cyc = s.cyc + ans.cycles := rfl
@[simp] theorem State.haltedStep_status (s : State) (ans : CpuAnswer) : (s.haltedStep ans).status = s.status := rfl
@[simp] theorem State.haltedStep_trace (s : State) (ans : CpuAnswer) : (s.haltedStep ans).trace = s.trace := rfl
@[simp] theorem State.haltedStep_a (s : State) (ans : CpuAnswer) : (s.haltedStep ans).a = s.a := rfl
@[simp] theorem State.haltedStep_pc (s : State) (ans : CpuAnswer) : (s.haltedStep ans).pc = s.pc := rfl
@[simp] theorem State.haltedStep_cpuHalted (s : State) (ans : CpuAnswer) : (s.haltedStep ans).cpuHalted = ans.halted := rfl
@[simp] theorem State.haltedStep_cpuRest (s : State) (ans : CpuAnswer) : (s.haltedStep ans).cpuRest = ans.rest := rfl
@[simp] theorem State.haltedStep_mem (s : State) (ans : CpuAnswer) : (s.haltedStep ans).mem = s.mem := rfl
@[simp] theorem State.haltedStep_params (s : State) (ans : CpuAnswer) : (s.haltedStep ans).params = s.params := rfl
@[simp] theorem State.haltedStep_draws (s : State) (ans : CpuAnswer) : (s.haltedStep ans).draws = s.draws + 1 := rfl

/-! `engineInjected` -/

@[simp] theorem State.engineInjected_switch0 (s : State) (ans : CpuAnswer) : (s.engineInjected ans).switch0 = s.switch0 := rfl
@[simp] theorem State.engineInjected_switch1 (s : State) (ans : CpuAnswer) : (s.engineInjected ans).switch1 = s.switch1 := rfl
@[simp] theorem State.engineInjected_switch2 (s : State) (ans : CpuAnswer) : (s.engineInjected ans).switch2 = s.switch2 := rfl
@[simp] theorem State.engineInjected_shiftAmount (s : State) (ans : CpuAnswer) : (s.engineInjected ans).shiftAmount = s.shiftAmount := rfl
@[simp] theorem State.engineInjected_shiftData (s : State) (ans : CpuAnswer) : (s.engineInjected ans).shiftData = s.shiftData := rfl
@[simp] theorem State.engineInjected_shiftOut (s : State) (ans : CpuAnswer) : (s.engineInjected ans).shiftOut = s.shiftOut := rfl
@[simp] theorem State.engineInjected_soundLatch1 (s : State) (ans : CpuAnswer) : (s.engineInjected ans).soundLatch1 = s.soundLatch1 := rfl
@[simp] theorem State.engineInjected_soundLatch2 (s : State) (ans : CpuAnswer) : (s.engineInjected ans).soundLatch2 = s.soundLatch2 := rfl
@[simp] theorem State.engineInjected_watchdog (s : State) (ans : CpuAnswer) : (s.engineInjected ans).watchdog = s.watchdog := rfl
@[simp] theorem State.engineInjected_cursor (s : State) (ans : CpuAnswer) : (s.engineInjected ans).cursor = s.cursor := rfl
@[simp] theorem State.engineInjected_framebuffer (s : State) (ans : CpuAnswer) : (s.engineInjected ans).framebuffer = s.framebuffer := rfl
@[simp] theorem State.engineInjected_phase (s : State) (ans : CpuAnswer) : (s.engineInjected ans).phase = s.phase := rfl
@[simp] theorem State.engineInjected_cyc (s : State) (ans : CpuAnswer) : (s.engineInjected ans).cyc = s.cyc := rfl
@[simp] theorem State.engineInjected_status (s : State) (ans : CpuAnswer) : (s.engineInjected ans).status = s.status := rfl
@[simp] theorem State.engineInjected_trace (s : State) (ans : CpuAnswer) : (s.engineInjected ans).trace = s.trace := rfl
@[simp] theorem State.engineInjected_a (s : State) (ans : CpuAnswer) : (s.engineInjected ans).a = ans.a := rfl
@[simp] theorem State.engineInjected_pc (s : State) (ans : CpuAnswer) : (s.engineInjected ans).pc = addrWrap s.params ans.pc := rfl
@[simp] theorem State.engineInjected_cpuHalted (s : State) (ans : CpuAnswer) : (s.engineInjected ans).cpuHalted = ans.halted := rfl
@[simp] theorem State.engineInjected_cpuRest (s : State) (ans : CpuAnswer) : (s.engineInjected ans).cpuRest = ans.rest := rfl
@[simp] theorem State.engineInjected_mem (s : State) (ans : CpuAnswer) : (s.engineInjected ans).mem = Memory.writeAll s.mem s.params.memSize ans.writes := rfl
@[simp] theorem State.engineInjected_params (s : State) (ans : CpuAnswer) : (s.engineInjected ans).params = s.params := rfl
@[simp] theorem State.engineInjected_draws (s : State) (ans : CpuAnswer) : (s.engineInjected ans).draws = s.draws + 1 := rfl

/-! `engineExecuted` -/

@[simp] theorem State.engineExecuted_switch0 (s : State) (ans : CpuAnswer) : (s.engineExecuted ans).switch0 = s.switch0 := rfl
@[simp] theorem State.engineExecuted_switch1 (s : State) (ans : CpuAnswer) : (s.engineExecuted ans).switch1 = s.switch1 := rfl
@[simp] theorem State.engineExecuted_switch2 (s : State) (ans : CpuAnswer) : (s.engineExecuted ans).switch2 = s.switch2 := rfl
@[simp] theorem State.engineExecuted_shiftAmount (s : State) (ans : CpuAnswer) : (s.engineExecuted ans).shiftAmount = s.shiftAmount := rfl
@[simp] theorem State.engineExecuted_shiftData (s : State) (ans : CpuAnswer) : (s.engineExecuted ans).shiftData = s.shiftData := rfl
@[simp] theorem State.engineExecuted_shiftOut (s : State) (ans : CpuAnswer) : (s.engineExecuted ans).shiftOut = s.shiftOut := rfl
@[simp] theorem State.engineExecuted_soundLatch1 (s : State) (ans : CpuAnswer) : (s.engineExecuted ans).soundLatch1 = s.soundLatch1 := rfl
@[simp] theorem State.engineExecuted_soundLatch2 (s : State) (ans : CpuAnswer) : (s.engineExecuted ans).soundLatch2 = s.soundLatch2 := rfl
@[simp] theorem State.engineExecuted_watchdog (s : State) (ans : CpuAnswer) : (s.engineExecuted ans).watchdog = s.watchdog := rfl
@[simp] theorem State.engineExecuted_cursor (s : State) (ans : CpuAnswer) : (s.engineExecuted ans).cursor = s.cursor := rfl
@[simp] theorem State.engineExecuted_framebuffer (s : State) (ans : CpuAnswer) : (s.engineExecuted ans).framebuffer = s.framebuffer := rfl
@[simp] theorem State.engineExecuted_phase (s : State) (ans : CpuAnswer) : (s.engineExecuted ans).phase = s.phase := rfl
@[simp] theorem State.engineExecuted_cyc (s : State) (ans : CpuAnswer) : (s.engineExecuted ans).cyc = s.cyc + ans.cycles := rfl
@[simp] theorem State.engineExecuted_status (s : State) (ans : CpuAnswer) : (s.engineExecuted ans).status = s.status := rfl
@[simp] theorem State.engineExecuted_trace (s : State) (ans : CpuAnswer) : (s.engineExecuted ans).trace = s.trace := rfl
@[simp] theorem State.engineExecuted_a (s : State) (ans : CpuAnswer) : (s.engineExecuted ans).a = ans.a := rfl
@[simp] theorem State.engineExecuted_pc (s : State) (ans : CpuAnswer) : (s.engineExecuted ans).pc = addrWrap s.params ans.pc := rfl
@[simp] theorem State.engineExecuted_cpuHalted (s : State) (ans : CpuAnswer) : (s.engineExecuted ans).cpuHalted = ans.halted := rfl
@[simp] theorem State.engineExecuted_cpuRest (s : State) (ans : CpuAnswer) : (s.engineExecuted ans).cpuRest = ans.rest := rfl
@[simp] theorem State.engineExecuted_mem (s : State) (ans : CpuAnswer) : (s.engineExecuted ans).mem = Memory.writeAll s.mem s.params.memSize ans.writes := rfl
@[simp] theorem State.engineExecuted_params (s : State) (ans : CpuAnswer) : (s.engineExecuted ans).params = s.params := rfl
@[simp] theorem State.engineExecuted_draws (s : State) (ans : CpuAnswer) : (s.engineExecuted ans).draws = s.draws + 1 := rfl

/-! `inject` -/

@[simp] theorem State.inject_switch0 (s : State) (v : Nat) : (s.inject v).switch0 = s.switch0 := rfl
@[simp] theorem State.inject_switch1 (s : State) (v : Nat) : (s.inject v).switch1 = s.switch1 := rfl
@[simp] theorem State.inject_switch2 (s : State) (v : Nat) : (s.inject v).switch2 = s.switch2 := rfl
@[simp] theorem State.inject_shiftAmount (s : State) (v : Nat) : (s.inject v).shiftAmount = s.shiftAmount := rfl
@[simp] theorem State.inject_shiftData (s : State) (v : Nat) : (s.inject v).shiftData = s.shiftData := rfl
@[simp] theorem State.inject_shiftOut (s : State) (v : Nat) : (s.inject v).shiftOut = s.shiftOut := rfl
@[simp] theorem State.inject_soundLatch1 (s : State) (v : Nat) : (s.inject v).soundLatch1 = s.soundLatch1 := rfl
@[simp] theorem State.inject_soundLatch2 (s : State) (v : Nat) : (s.inject v).soundLatch2 = s.soundLatch2 := rfl
@[simp] theorem State.inject_watchdog (s : State) (v : Nat) : (s.inject v).watchdog = s.watchdog := rfl
@[simp] theorem State.inject_cursor (s : State) (v : Nat) : (s.inject v).cursor = s.cursor := rfl
@[simp] theorem State.inject_framebuffer (s : State) (v : Nat) : (s.inject v).framebuffer = s.framebuffer := rfl
@[simp] theorem State.inject_phase (s : State) (v : Nat) : (s.inject v).phase = s.phase := rfl
@[simp] theorem State.inject_cyc (s : State) (v : Nat) : (s.inject v).cyc = s.cyc := rfl
@[simp] theorem State.inject_status (s : State) (v : Nat) : (s.inject v).status = s.status := rfl
@[simp] theorem State.inject_trace (s : State) (v : Nat) : (s.inject v).trace = s.trace ++ [.inject v] := rfl
@[simp] theorem State.inject_a (s : State) (v : Nat) : (s.inject v).a = (Config.cpuInject s.draws v s.cpuView).a := rfl
@[simp] theorem State.inject_pc (s : State) (v : Nat) : (s.inject v).pc = addrWrap s.params (Config.cpuInject s.draws v s.cpuView).pc := rfl
@[simp] theorem State.inject_cpuHalted (s : State) (v : Nat) : (s.inject v).cpuHalted = (Config.cpuInject s.draws v s.cpuView).halted := rfl
@[simp] theorem State.inject_cpuRest (s : State) (v : Nat) : (s.inject v).cpuRest = (Config.cpuInject s.draws v s.cpuView).rest := rfl
@[simp] theorem State.inject_mem (s : State) (v : Nat) : (s.inject v).mem = Memory.writeAll s.mem s.params.memSize (Config.cpuInject s.draws v s.cpuView).writes := rfl
@[simp] theorem State.inject_params (s : State) (v : Nat) : (s.inject v).params = s.params := rfl
@[simp] theorem State.inject_draws (s : State) (v : Nat) : (s.inject v).draws = s.draws + 1 := rfl

/-! `deliver` -/

@[simp] theorem State.deliver_switch0 (s : State) : (s.deliver).switch0 = s.switch0 := rfl
@[simp] theorem State.deliver_switch1 (s : State) : (s.deliver).switch1 = s.switch1 := rfl
@[simp] theorem State.deliver_switch2 (s : State) : (s.deliver).switch2 = s.switch2 := rfl
@[simp] theorem State.deliver_shiftAmount (s : State) : (s.deliver).shiftAmount = s.shiftAmount := rfl
@[simp] theorem State.deliver_shiftData (s : State) : (s.deliver).shiftData = s.shiftData := rfl
@[simp] theorem State.deliver_shiftOut (s : State) : (s.deliver).shiftOut = s.shiftOut := rfl
@[simp] theorem State.deliver_soundLatch1 (s : State) : (s.deliver).soundLatch1 = s.soundLatch1 := rfl
@[simp] theorem State.deliver_soundLatch2 (s : State) : (s.deliver).soundLatch2 = s.soundLatch2 := rfl
@[simp] theorem State.deliver_watchdog (s : State) : (s.deliver).watchdog = s.watchdog := rfl
@[simp] theorem State.deliver_cursor (s : State) : (s.deliver).cursor = s.cursor.flip := rfl
@[simp] theorem State.deliver_framebuffer (s : State) : (s.deliver).framebuffer = s.framebuffer := rfl
@[simp] theorem State.deliver_phase (s : State) : (s.deliver).phase = .burst2 := rfl
@[simp] theorem State.deliver_cyc (s : State) : (s.deliver).cyc = s.cyc := rfl
@[simp] theorem State.deliver_status (s : State) : (s.deliver).status = s.status := rfl
@[simp] theorem State.deliver_trace (s : State) : (s.deliver).trace = s.trace ++ [.inject s.vector] := rfl
@[simp] theorem State.deliver_a (s : State) : (s.deliver).a = (Config.cpuInject s.draws s.vector s.cpuView).a := rfl
@[simp] theorem State.deliver_pc (s : State) : (s.deliver).pc = addrWrap s.params (Config.cpuInject s.draws s.vector s.cpuView).pc := rfl
@[simp] theorem State.deliver_cpuHalted (s : State) : (s.deliver).cpuHalted = (Config.cpuInject s.draws s.vector s.cpuView).halted := rfl
@[simp] theorem State.deliver_cpuRest (s : State) : (s.deliver).cpuRest = (Config.cpuInject s.draws s.vector s.cpuView).rest := rfl
@[simp] theorem State.deliver_mem (s : State) : (s.deliver).mem = Memory.writeAll s.mem s.params.memSize (Config.cpuInject s.draws s.vector s.cpuView).writes := rfl
@[simp] theorem State.deliver_params (s : State) : (s.deliver).params = s.params := rfl
@[simp] theorem State.deliver_draws (s : State) : (s.deliver).draws = s.draws + 1 := rfl

/-! `decodeAndPublish` -/

@[simp] theorem State.decodeAndPublish_switch0 (s : State) : (s.decodeAndPublish).switch0 = s.switch0 := rfl
@[simp] theorem State.decodeAndPublish_switch1 (s : State) : (s.decodeAndPublish).switch1 = s.switch1 := rfl
@[simp] theorem State.decodeAndPublish_switch2 (s : State) : (s.decodeAndPublish).switch2 = s.switch2 := rfl
@[simp] theorem State.decodeAndPublish_shiftAmount (s : State) : (s.decodeAndPublish).shiftAmount = s.shiftAmount := rfl
@[simp] theorem State.decodeAndPublish_shiftData (s : State) : (s.decodeAndPublish).shiftData = s.shiftData := rfl
@[simp] theorem State.decodeAndPublish_shiftOut (s : State) : (s.decodeAndPublish).shiftOut = s.shiftOut := rfl
@[simp] theorem State.decodeAndPublish_soundLatch1 (s : State) : (s.decodeAndPublish).soundLatch1 = s.soundLatch1 := rfl
@[simp] theorem State.decodeAndPublish_soundLatch2 (s : State) : (s.decodeAndPublish).soundLatch2 = s.soundLatch2 := rfl
@[simp] theorem State.decodeAndPublish_watchdog (s : State) : (s.decodeAndPublish).watchdog = s.watchdog := rfl
@[simp] theorem State.decodeAndPublish_cursor (s : State) : (s.decodeAndPublish).cursor = s.cursor := rfl
@[simp] theorem State.decodeAndPublish_framebuffer (s : State) : (s.decodeAndPublish).framebuffer = decodeFrame s.params s.mem := rfl
@[simp] theorem State.decodeAndPublish_phase (s : State) : (s.decodeAndPublish).phase = .poll := rfl
@[simp] theorem State.decodeAndPublish_cyc (s : State) : (s.decodeAndPublish).cyc = s.cyc := rfl
@[simp] theorem State.decodeAndPublish_status (s : State) : (s.decodeAndPublish).status = s.status := rfl
@[simp] theorem State.decodeAndPublish_trace (s : State) : (s.decodeAndPublish).trace = s.trace ++ [.publish ((decodeFrame s.params s.mem).map (packColour s.params))] := rfl
@[simp] theorem State.decodeAndPublish_a (s : State) : (s.decodeAndPublish).a = s.a := rfl
@[simp] theorem State.decodeAndPublish_pc (s : State) : (s.decodeAndPublish).pc = s.pc := rfl
@[simp] theorem State.decodeAndPublish_cpuHalted (s : State) : (s.decodeAndPublish).cpuHalted = s.cpuHalted := rfl
@[simp] theorem State.decodeAndPublish_cpuRest (s : State) : (s.decodeAndPublish).cpuRest = s.cpuRest := rfl
@[simp] theorem State.decodeAndPublish_mem (s : State) : (s.decodeAndPublish).mem = s.mem := rfl
@[simp] theorem State.decodeAndPublish_params (s : State) : (s.decodeAndPublish).params = s.params := rfl
@[simp] theorem State.decodeAndPublish_draws (s : State) : (s.decodeAndPublish).draws = s.draws := rfl

/-! `pollSwitches` -/

@[simp] theorem State.pollSwitches_switch0 (s : State) (held : Key → Bool) : (s.pollSwitches held).switch0 = s.switch0 := rfl
@[simp] theorem State.pollSwitches_switch1 (s : State) (held : Key → Bool) : (s.pollSwitches held).switch1 = (applyBindings held s.params.bindings (s.switch1, s.switch2)).1 := rfl
@[simp] theorem State.pollSwitches_switch2 (s : State) (held : Key → Bool) : (s.pollSwitches held).switch2 = (applyBindings held s.params.bindings (s.switch1, s.switch2)).2 := rfl
@[simp] theorem State.pollSwitches_shiftAmount (s : State) (held : Key → Bool) : (s.pollSwitches held).shiftAmount = s.shiftAmount := rfl
@[simp] theorem State.pollSwitches_shiftData (s : State) (held : Key → Bool) : (s.pollSwitches held).shiftData = s.shiftData := rfl
@[simp] theorem State.pollSwitches_shiftOut (s : State) (held : Key → Bool) : (s.pollSwitches held).shiftOut = s.shiftOut := rfl
@[simp] theorem State.pollSwitches_soundLatch1 (s : State) (held : Key → Bool) : (s.pollSwitches held).soundLatch1 = s.soundLatch1 := rfl
@[simp] theorem State.pollSwitches_soundLatch2 (s : State) (held : Key → Bool) : (s.pollSwitches held).soundLatch2 = s.soundLatch2 := rfl
@[simp] theorem State.pollSwitches_watchdog (s : State) (held : Key → Bool) : (s.pollSwitches held).watchdog = s.watchdog := rfl
@[simp] theorem State.pollSwitches_cursor (s : State) (held : Key → Bool) : (s.pollSwitches held).cursor = s.cursor := rfl
@[simp] theorem State.pollSwitches_framebuffer (s : State) (held : Key → Bool) : (s.pollSwitches held).framebuffer = s.framebuffer := rfl
@[simp] theorem State.pollSwitches_phase (s : State) (held : Key → Bool) : (s.pollSwitches held).phase = s.phase := rfl
@[simp] theorem State.pollSwitches_cyc (s : State) (held : Key → Bool) : (s.pollSwitches held).cyc = s.cyc := rfl
@[simp] theorem State.pollSwitches_status (s : State) (held : Key → Bool) : (s.pollSwitches held).status = s.status := rfl
@[simp] theorem State.pollSwitches_trace (s : State) (held : Key → Bool) : (s.pollSwitches held).trace = s.trace := rfl
@[simp] theorem State.pollSwitches_a (s : State) (held : Key → Bool) : (s.pollSwitches held).a = s.a := rfl
@[simp] theorem State.pollSwitches_pc (s : State) (held : Key → Bool) : (s.pollSwitches held).pc = s.pc := rfl
@[simp] theorem State.pollSwitches_cpuHalted (s : State) (held : Key → Bool) : (s.pollSwitches held).cpuHalted = s.cpuHalted := rfl
@[simp] theorem State.pollSwitches_cpuRest (s : State) (held : Key → Bool) : (s.pollSwitches held).cpuRest = s.cpuRest := rfl
@[simp] theorem State.pollSwitches_mem (s : State) (held : Key → Bool) : (s.pollSwitches held).mem = s.mem := rfl
@[simp] theorem State.pollSwitches_params (s : State) (held : Key → Bool) : (s.pollSwitches held).params = s.params := rfl
@[simp] theorem State.pollSwitches_draws (s : State) (held : Key → Bool) : (s.pollSwitches held).draws = s.draws := rfl

/-! `stepPort`: what it leaves as it was -/

@[simp] theorem State.stepPort_switch0 (s : State) : (s.stepPort).switch0 = s.switch0 := by
  unfold State.stepPort; split <;> rfl
@[simp] theorem State.stepPort_switch1 (s : State) : (s.stepPort).switch1 = s.switch1 := by
  unfold State.stepPort; split <;> rfl
@[simp] theorem State.stepPort_switch2 (s : State) : (s.stepPort).switch2 = s.switch2 := by
  unfold State.stepPort; split <;> rfl
@[simp] theorem State.stepPort_shiftAmount (s : State) : (s.stepPort).shiftAmount = s.shiftAmount := by
  unfold State.stepPort; split <;> rfl
@[simp] theorem State.stepPort_shiftData (s : State) : (s.stepPort).shiftData = s.shiftData := by
  unfold State.stepPort; split <;> rfl
@[simp] theorem State.stepPort_shiftOut (s : State) : (s.stepPort).shiftOut = s.shiftOut := by
  unfold State.stepPort; split <;> rfl
@[simp] theorem State.stepPort_soundLatch1 (s : State) : (s.stepPort).soundLatch1 = s.soundLatch1 := by
  unfold State.stepPort; split <;> rfl
@[simp] theorem State.stepPort_soundLatch2 (s : State) : (s.stepPort).soundLatch2 = s.soundLatch2 := by
  unfold State.stepPort; split <;> rfl
@[simp] theorem State.stepPort_watchdog (s : State) : (s.stepPort).watchdog = s.watchdog := by
  unfold State.stepPort; split <;> rfl
@[simp] theorem State.stepPort_cursor (s : State) : (s.stepPort).cursor = s.cursor := by
  unfold State.stepPort; split <;> rfl
@[simp] theorem State.stepPort_framebuffer (s : State) : (s.stepPort).framebuffer = s.framebuffer := by
  unfold State.stepPort; split <;> rfl
@[simp] theorem State.stepPort_phase (s : State) : (s.stepPort).phase = s.phase := by
  unfold State.stepPort; split <;> rfl
@[simp] theorem State.stepPort_status (s : State) : (s.stepPort).status = s.status := by
  unfold State.stepPort; split <;> rfl
@[simp] theorem State.stepPort_trace (s : State) : (s.stepPort).trace = s.trace := by
  unfold State.stepPort; split <;> rfl
@[simp] theorem State.stepPort_a (s : State) : (s.stepPort).a = s.a := by
  unfold State.stepPort; split <;> rfl
@[simp] theorem State.stepPort_mem (s : State) : (s.stepPort).mem = s.mem := by
  unfold State.stepPort; split <;> rfl
@[simp] theorem State.stepPort_params (s : State) : (s.stepPort).params = s.params := by
  unfold State.stepPort; split <;> rfl

@[simp] theorem State.stepPort_draws (s : State) : s.stepPort.draws = s.draws + 1 := by
  unfold State.stepPort; split <;> rfl

/-! `stepOther`: what it leaves as it was -/

@[simp] theorem State.stepOther_switch0 (s : State) : (s.stepOther).switch0 = s.switch0 := by
  unfold State.stepOther; split <;> rfl
@[simp] theorem State.stepOther_switch1 (s : State) : (s.stepOther).switch1 = s.switch1 := by
  unfold State.stepOther; split <;> rfl
@[simp] theorem State.stepOther_switch2 (s : State) : (s.stepOther).switch2 = s.switch2 := by
  unfold State.stepOther; split <;> rfl
@[simp] theorem State.stepOther_shiftAmount (s : State) : (s.stepOther).shiftAmount = s.shiftAmount := by
  unfold State.stepOther; split <;> rfl
@[simp] theorem State.stepOther_shiftData (s : State) : (s.stepOther).shiftData = s.shiftData := by
  unfold State.stepOther; split <;> rfl
@[simp] theorem State.stepOther_shiftOut (s : State) : (s.stepOther).shiftOut = s.shiftOut := by
  unfold State.stepOther; split <;> rfl
@[simp] theorem State.stepOther_soundLatch1 (s : State) : (s.stepOther).soundLatch1 = s.soundLatch1 := by
  unfold State.stepOther; split <;> rfl
@[simp] theorem State.stepOther_soundLatch2 (s : State) : (s.stepOther).soundLatch2 = s.soundLatch2 := by
  unfold State.stepOther; split <;> rfl
@[simp] theorem State.stepOther_watchdog (s : State) : (s.stepOther).watchdog = s.watchdog := by
  unfold State.stepOther; split <;> rfl
@[simp] theorem State.stepOther_cursor (s : State) : (s.stepOther).cursor = s.cursor := by
  unfold State.stepOther; split <;> rfl
@[simp] theorem State.stepOther_framebuffer (s : State) : (s.stepOther).framebuffer = s.framebuffer := by
  unfold State.stepOther; split <;> rfl
@[simp] theorem State.stepOther_phase (s : State) : (s.stepOther).phase = s.phase := by
  unfold State.stepOther; split <;> rfl
@[simp] theorem State.stepOther_status (s : State) : (s.stepOther).status = s.status := by
  unfold State.stepOther; split <;> rfl
@[simp] theorem State.stepOther_trace (s : State) : (s.stepOther).trace = s.trace := by
  unfold State.stepOther; split <;> rfl
@[simp] theorem State.stepOther_params (s : State) : (s.stepOther).params = s.params := by
  unfold State.stepOther; split <;> rfl

@[simp] theorem State.stepOther_draws (s : State) : s.stepOther.draws = s.draws + 1 := by
  unfold State.stepOther; split <;> rfl

/-! `setLatch`: what it leaves as it was -/

@[simp] theorem State.setLatch_switch0 (s : State) (b : Bank) (v : Byte) : (s.setLatch b v).switch0 = s.switch0 := by
  cases b <;> rfl
@[simp] theorem State.setLatch_switch1 (s : State) (b : Bank) (v : Byte) : (s.setLatch b v).switch1 = s.switch1 := by
  cases b <;> rfl
@[simp] theorem State.setLatch_switch2 (s : State) (b : Bank) (v : Byte) : (s.setLatch b v).switch2 = s.switch2 := by
  cases b <;> rfl
@[simp] theorem State.setLatch_shiftAmount (s : State) (b : Bank) (v : Byte) : (s.setLatch b v).shiftAmount = s.shiftAmount := by
  cases b <;> rfl
@[simp] theorem State.setLatch_shiftData (s : State) (b : Bank) (v : Byte) : (s.setLatch b v).shiftData = s.shiftData := by
  cases b <;> rfl
@[simp] theorem State.setLatch_shiftOut (s : State) (b : Bank) (v : Byte) : (s.setLatch b v).shiftOut = s.shiftOut := by
  cases b <;> rfl
@[simp] theorem State.setLatch_watchdog (s : State) (b : Bank) (v : Byte) : (s.setLatch b v).watchdog = s.watchdog := by
  cases b <;> rfl
@[simp] theorem State.setLatch_cursor (s : State) (b : Bank) (v : Byte) : (s.setLatch b v).cursor = s.cursor := by
  cases b <;> rfl
@[simp] theorem State.setLatch_framebuffer (s : State) (b : Bank) (v : Byte) : (s.setLatch b v).framebuffer = s.framebuffer := by
  cases b <;> rfl
@[simp] theorem State.setLatch_phase (s : State) (b : Bank) (v : Byte) : (s.setLatch b v).phase = s.phase := by
  cases b <;> rfl
@[simp] theorem State.setLatch_cyc (s : State) (b : Bank) (v : Byte) : (s.setLatch b v).cyc = s.cyc := by
  cases b <;> rfl
@[simp] theorem State.setLatch_status (s : State) (b : Bank) (v : Byte) : (s.setLatch b v).status = s.status := by
  cases b <;> rfl
@[simp] theorem State.setLatch_trace (s : State) (b : Bank) (v : Byte) : (s.setLatch b v).trace = s.trace := by
  cases b <;> rfl
@[simp] theorem State.setLatch_a (s : State) (b : Bank) (v : Byte) : (s.setLatch b v).a = s.a := by
  cases b <;> rfl
@[simp] theorem State.setLatch_pc (s : State) (b : Bank) (v : Byte) : (s.setLatch b v).pc = s.pc := by
  cases b <;> rfl
@[simp] theorem State.setLatch_cpuHalted (s : State) (b : Bank) (v : Byte) : (s.setLatch b v).cpuHalted = s.cpuHalted := by
  cases b <;> rfl
@[simp] theorem State.setLatch_cpuRest (s : State) (b : Bank) (v : Byte) : (s.setLatch b v).cpuRest = s.cpuRest := by
  cases b <;> rfl
@[simp] theorem State.setLatch_mem (s : State) (b : Bank) (v : Byte) : (s.setLatch b v).mem = s.mem := by
  cases b <;> rfl
@[simp] theorem State.setLatch_params (s : State) (b : Bank) (v : Byte) : (s.setLatch b v).params = s.params := by
  cases b <;> rfl
@[simp] theorem State.setLatch_draws (s : State) (b : Bank) (v : Byte) : (s.setLatch b v).draws = s.draws := by
  cases b <;> rfl

/-! `trigger`: what it leaves as it was -/

@[simp] theorem State.trigger_switch0 (s : State) (b : Bank) (v : Byte) : (s.trigger b v).switch0 = s.switch0 := by
  unfold State.trigger; split <;> cases b <;> rfl
@[simp] theorem State.trigger_switch1 (s : State) (b : Bank) (v : Byte) : (s.trigger b v).switch1 = s.switch1 := by
  unfold State.trigger; split <;> cases b <;> rfl
@[simp] theorem State.trigger_switch2 (s : State) (b : Bank) (v : Byte) : (s.trigger b v).switch2 = s.switch2 := by
  unfold State.trigger; split <;> cases b <;> rfl
@[simp] theorem State.trigger_shiftAmount (s : State) (b : Bank) (v : Byte) : (s.trigger b v).shiftAmount = s.shiftAmount := by
  unfold State.trigger; split <;> cases b <;> rfl
@[simp] theorem State.trigger_shiftData (s : State) (b : Bank) (v : Byte) : (s.trigger b v).shiftData = s.shiftData := by
  unfold State.trigger; split <;> cases b <;> rfl
@[simp] theorem State.trigger_shiftOut (s : State) (b : Bank) (v : Byte) : (s.trigger b v).shiftOut = s.shiftOut := by
  unfold State.trigger; split <;> cases b <;> rfl
@[simp] theorem State.trigger_watchdog (s : State) (b : Bank) (v : Byte) : (s.trigger b v).watchdog = s.watchdog := by
  unfold State.trigger; split <;> cases b <;> rfl
@[simp] theorem State.trigger_cursor (s : State) (b : Bank) (v : Byte) : (s.trigger b v).cursor = s.cursor := by
  unfold State.trigger; split <;> cases b <;> rfl
@[simp] theorem State.trigger_framebuffer (s : State) (b : Bank) (v : Byte) : (s.trigger b v).framebuffer = s.framebuffer := by
  unfold State.trigger; split <;> cases b <;> rfl
@[simp] theorem State.trigger_phase (s : State) (b : Bank) (v : Byte) : (s.trigger b v).phase = s.phase := by
  unfold State.trigger; split <;> cases b <;> rfl
@[simp] theorem State.trigger_cyc (s : State) (b : Bank) (v : Byte) : (s.trigger b v).cyc = s.cyc := by
  unfold State.trigger; split <;> cases b <;> rfl
@[simp] theorem State.trigger_status (s : State) (b : Bank) (v : Byte) : (s.trigger b v).status = s.status := by
  unfold State.trigger; split <;> cases b <;> rfl
@[simp] theorem State.trigger_a (s : State) (b : Bank) (v : Byte) : (s.trigger b v).a = s.a := by
  unfold State.trigger; split <;> cases b <;> rfl
@[simp] theorem State.trigger_pc (s : State) (b : Bank) (v : Byte) : (s.trigger b v).pc = s.pc := by
  unfold State.trigger; split <;> cases b <;> rfl
@[simp] theorem State.trigger_cpuHalted (s : State) (b : Bank) (v : Byte) : (s.trigger b v).cpuHalted = s.cpuHalted := by
  unfold State.trigger; split <;> cases b <;> rfl
@[simp] theorem State.trigger_cpuRest (s : State) (b : Bank) (v : Byte) : (s.trigger b v).cpuRest = s.cpuRest := by
  unfold State.trigger; split <;> cases b <;> rfl
@[simp] theorem State.trigger_mem (s : State) (b : Bank) (v : Byte) : (s.trigger b v).mem = s.mem := by
  unfold State.trigger; split <;> cases b <;> rfl
@[simp] theorem State.trigger_params (s : State) (b : Bank) (v : Byte) : (s.trigger b v).params = s.params := by
  unfold State.trigger; split <;> cases b <;> rfl
@[simp] theorem State.trigger_draws (s : State) (b : Bank) (v : Byte) : (s.trigger b v).draws = s.draws := by
  unfold State.trigger; split <;> cases b <;> rfl

end Sys2Proof.Machine
end

