-- ==== Sys2Proof/Laws/Ports.lean ====
section
/-! SUPPORT. What the shared port operations can do, said once: the multiplexers by port number, one IN, one OUT, and every
meaning as one of the two. -/

namespace Sys2Proof.Machine

/-- Every instruction is one IN or one OUT of its port. -/
theorem exec_eq_run (i : Instr) (s : State) :
    exec i s = .next (match i.cls with
      | .input => s.runIn i.port
      | .output => s.runOut i.port
      | .other => s) := by
  cases i <;> rfl

/-- An instruction always answers a next state. -/
theorem exec_answers (i : Instr) (s : State) : ∃ t, exec i s = .next t := ⟨_, exec_eq_run i s⟩

/-- The ports by number, as IN sees them (R121). -/
theorem inPort_cases (port : Byte) : port = 0 ∨ port = 1 ∨ port = 2 ∨ port = 3 ∨ 4 ≤ port.toNat := by bv_omega

/-- The ports by number, as OUT sees them (R122). -/
theorem outPort_cases (port : Byte) :
    port = 2 ∨ port = 3 ∨ port = 4 ∨ port = 5 ∨ port = 6 ∨ port = 7 ∨ (port.toNat < 2 ∨ 8 ≤ port.toNat) := by bv_omega

/-- `PortRead` outside 0..3 raises (R121). -/
theorem portRead_unmapped (s : State) {port : Byte} (h : 4 ≤ port.toNat) : s.portRead port = none := by
  have h0 : port ≠ 0 := by bv_omega
  have h1 : port ≠ 1 := by bv_omega
  have h2 : port ≠ 2 := by bv_omega
  have h3 : port ≠ 3 := by bv_omega
  rw [State.portRead, if_neg h0, if_neg h1, if_neg h2, if_neg h3]

/-- `PortWrite` outside 2..7 raises (R122). -/
theorem portWrite_unmapped (s : State) {port : Byte} (v : Byte) (h : port.toNat < 2 ∨ 8 ≤ port.toNat) :
    s.portWrite port v = none := by
  have h2 : port ≠ 2 := by bv_omega
  have h3 : port ≠ 3 := by bv_omega
  have h4 : port ≠ 4 := by bv_omega
  have h5 : port ≠ 5 := by bv_omega
  have h6 : port ≠ 6 := by bv_omega
  have h7 : port ≠ 7 := by bv_omega
  rw [State.portWrite, if_neg h2, if_neg h3, if_neg h4, if_neg h5, if_neg h6, if_neg h7]

/-- What a port read can do (R121): it changes nothing but the window cache. -/
theorem portRead_cases {s t : State} {port v : Byte} (h : s.portRead port = some (v, t)) :
    (port = 0 ∧ v = s.switch0 ∧ t = s) ∨ (port = 1 ∧ v = s.switch1 ∧ t = s) ∨ (port = 2 ∧ v = s.switch2 ∧ t = s) ∨
    (port = 3 ∧ v = shiftWindow s.shiftData s.shiftAmount ∧ t = s.shiftRead) := by
  rcases inPort_cases port with rfl | rfl | rfl | rfl | hp
  · cases h; simp
  · cases h; simp
  · cases h; simp
  · cases h; simp
  · rw [portRead_unmapped s hp] at h
    cases h

/-- A port read faults exactly outside 0..3 (R221). -/
theorem portRead_none_iff {s : State} {port : Byte} : s.portRead port = none ↔ 4 ≤ port.toNat := by
  refine ⟨fun h => ?_, portRead_unmapped s⟩
  rcases inPort_cases port with rfl | rfl | rfl | rfl | hp
  · cases h
  · cases h
  · cases h
  · cases h
  · exact hp

/-- What a port write can do (R122). -/
theorem portWrite_cases {s t : State} {port v : Byte} (h : s.portWrite port v = some t) :
    (port = 2 ∧ t = { s with shiftAmount := v &&& 0x7 }) ∨ (port = 3 ∧ t = s.trigger .bank1 v) ∨
    (port = 4 ∧ t = { s with shiftData := shiftLoad v s.shiftData }) ∨ (port = 5 ∧ t = s.trigger .bank2 v) ∨
    (port = 6 ∧ t = { s with watchdog := v }) ∨ (port = 7 ∧ t = s) := by
  rcases outPort_cases port with rfl | rfl | rfl | rfl | rfl | rfl | hp
  · cases h; simp
  · cases h; simp
  · cases h; simp
  · cases h; simp
  · cases h; simp
  · cases h; simp
  · rw [portWrite_unmapped s v hp] at h
    cases h

/-- A port write faults exactly outside 2..7 (R221). -/
theorem portWrite_none_iff {s : State} {port v : Byte} :
    s.portWrite port v = none ↔ port.toNat < 2 ∨ 8 ≤ port.toNat := by
  refine ⟨fun h => ?_, portWrite_unmapped s v⟩
  rcases outPort_cases port with rfl | rfl | rfl | rfl | rfl | rfl | hp
  · cases h
  · cases h
  · cases h
  · cases h
  · cases h
  · cases h
  · exact hp

/-- What one IN can do: a legal read and the CPU's step, or the fault. -/
theorem runIn_cases (s : State) (port : Byte) :
    (∃ v t, s.portRead port = some (v, t) ∧ s.runIn port = (t.setA v).stepPort) ∨
    (4 ≤ port.toNat ∧ s.runIn port = s.raiseFatal (.portRead port s.pc)) := by
  unfold State.runIn
  cases h : s.portRead port with
  | none => exact .inr ⟨portRead_none_iff.1 h, rfl⟩
  | some r => exact .inl ⟨r.1, r.2, rfl, rfl⟩

/-- What one OUT can do: a legal write and the CPU's step, or the fault. -/
theorem runOut_cases (s : State) (port : Byte) :
    (∃ t, s.portWrite port s.a = some t ∧ s.runOut port = t.stepPort) ∨
    ((port.toNat < 2 ∨ 8 ≤ port.toNat) ∧ s.runOut port = s.raiseFatal (.portWrite port s.pc s.a)) := by
  unfold State.runOut
  cases h : s.portWrite port s.a with
  | none => exact .inr ⟨portWrite_none_iff.1 h, rfl⟩
  | some t => exact .inl ⟨t, rfl, rfl⟩

theorem filterMap_guard {α β : Type} (c : α → Bool) (f : α → β) (l : List α) :
    (l.filterMap fun k => if c k then some (f k) else none) = (l.filter c).map f := by
  induction l with
  | nil => rfl
  | cons x l ih => cases h : c x <;> simp [h, ih]

/-- The `Play` events of a bank whose mapped bits are the lowest `n`, ascending (R160, R163). -/
theorem bankPlays_eq_filter (b : Bank) (old v : Byte) (n : Nat) (h8 : n ≤ 8)
    (hn : ∀ k < 8, b.mask.getLsbD k = decide (k < n)) :
    bankPlays b (risingBits b old v) =
      ((List.range n).filter fun k => v.getLsbD k && !old.getLsbD k).map fun k => Event.play (b.base + k) := by
  rw [bankPlays, filterMap_guard]
  congr 1
  have split : List.range 8 = List.range n ++ (List.range (8 - n)).map (n + ·) := by
    rw [← List.range_add, show n + (8 - n) = 8 by omega]
  rw [split, List.filter_append]
  have low : (List.range n).filter (fun k => (risingBits b old v).getLsbD k) =
      (List.range n).filter fun k => v.getLsbD k && !old.getLsbD k := by
    apply List.filter_congr
    intro k hk
    have hk := List.mem_range.1 hk
    have h8k : k < 8 := by omega
    simp only [risingBits, BitVec.getLsbD_and, BitVec.getLsbD_not, hn k h8k]
    simp [hk, h8k]
  have high : ((List.range (8 - n)).map (n + ·)).filter (fun k => (risingBits b old v).getLsbD k) = [] := by
    rw [List.filter_eq_nil_iff]
    intro k hk
    simp only [List.mem_map, List.mem_range] at hk
    obtain ⟨j, hj, rfl⟩ := hk
    simp only [risingBits, BitVec.getLsbD_and, hn (n + j) (by omega)]
    simp
  rw [low, high, List.append_nil]

theorem bankPlays_bank1 (old v : Byte) : bankPlays .bank1 (risingBits .bank1 old v) =
    ((List.range 4).filter fun k => v.getLsbD k && !old.getLsbD k).map fun k => Event.play k := by
  simpa [Bank.base] using bankPlays_eq_filter .bank1 old v 4 (by omega) (by decide)

theorem bankPlays_bank2 (old v : Byte) : bankPlays .bank2 (risingBits .bank2 old v) =
    ((List.range 5).filter fun k => v.getLsbD k && !old.getLsbD k).map fun k => Event.play (4 + k) := by
  simpa [Bank.base] using bankPlays_eq_filter .bank2 old v 5 (by omega) (by decide)

/-- Every `Play` of a bank is one of its samples (R160). -/
theorem bankPlays_samples {b : Bank} {old v : Byte} {e : Event} (h : e ∈ bankPlays b (risingBits b old v)) :
    ∃ k < 8, e = .play (b.base + k) ∧ b.mask.getLsbD k = true := by
  simp only [bankPlays, List.mem_filterMap, List.mem_range] at h
  obtain ⟨k, hk, hr⟩ := h
  split at hr
  · rename_i hb
    refine ⟨k, hk, (Option.some.inj hr).symm, ?_⟩
    simp only [risingBits, BitVec.getLsbD_and, Bool.and_eq_true] at hb
    exact hb.2
  · simp at hr

/-- What `Trigger` appends to the trace, with or without its `v != old` test (R160, R163). -/
theorem trigger_trace (s : State) (b : Bank) (v : Byte) :
    (s.trigger b v).trace = s.trace ++ bankPlays b (risingBits b (s.latch b) v) := by
  unfold State.trigger
  split
  · rename_i h
    have : risingBits b (s.latch b) v = 0 := by
      rw [h]
      simp [risingBits]
    simp [this, bankPlays]
  · cases b <;> rfl

/-- The latch takes the whole byte (R36, R163); the other bank's latch stays. -/
theorem trigger_latches (s : State) (v : Byte) :
    (s.trigger .bank1 v).soundLatch1 = v ∧ (s.trigger .bank1 v).soundLatch2 = s.soundLatch2 ∧
    (s.trigger .bank2 v).soundLatch2 = v ∧ (s.trigger .bank2 v).soundLatch1 = s.soundLatch1 := by
  refine ⟨?_, ?_, ?_, ?_⟩ <;>
  · unfold State.trigger
    split
    · simp_all [State.latch]
    · rfl

/-- `Trigger` on bank 1 as one update: the `v != old` test changes no outcome (R163). -/
theorem trigger_bank1 (s : State) (v : Byte) : s.trigger .bank1 v =
    { s with soundLatch1 := v, trace := s.trace ++ bankPlays .bank1 (risingBits .bank1 s.soundLatch1 v) } := by
  have h1 := trigger_trace s .bank1 v
  have h2 := trigger_latches s v
  unfold State.trigger at *
  split
  · rename_i h
    rw [if_pos h] at h1 h2
    cases s
    simp_all [State.latch]
  · rfl

/-- `Trigger` on bank 2 as one update. -/
theorem trigger_bank2 (s : State) (v : Byte) : s.trigger .bank2 v =
    { s with soundLatch2 := v, trace := s.trace ++ bankPlays .bank2 (risingBits .bank2 s.soundLatch2 v) } := by
  have h1 := trigger_trace s .bank2 v
  have h2 := trigger_latches s v
  unfold State.trigger at *
  split
  · rename_i h
    rw [if_pos h] at h1 h2
    cases s
    simp_all [State.latch]
  · rfl

/-- The load as a number: A is the high byte, the old high byte the low byte (R143). -/
theorem shiftLoad_toNat (v : Byte) (d : HalfWord) : (shiftLoad v d).toNat = v.toNat * 256 + d.toNat / 256 := by
  have hv := v.isLt
  have hd := d.isLt
  simp only [shiftLoad, BitVec.toNat_or, BitVec.toNat_shiftLeft, BitVec.toNat_setWidth, BitVec.toNat_ushiftRight,
    Nat.shiftRight_eq_div_pow]
  rw [Nat.mod_eq_of_lt (a := v.toNat) (by omega), Nat.mod_eq_of_lt (by rw [Nat.shiftLeft_eq]; omega),
    ← Nat.shiftLeft_add_eq_or_of_lt (by omega), Nat.shiftLeft_eq]

/-- The window as a number (R140). -/
theorem shiftWindow_toNat (d : HalfWord) (n : Byte) : (shiftWindow d n).toNat = d.toNat / 2 ^ (8 - n.toNat) % 256 := by
  simp [shiftWindow, BitVec.toNat_ushiftRight, Nat.shiftRight_eq_div_pow]

/-- The CPU's step after an IN or OUT, where the engine runs (R123). -/
theorem stepPort_of_running {s : State} (h : s.cpuHalted = false) :
    s.stepPort = s.portExecuted (Config.cpuStep s.draws s.cpuView).cycles := by
  rw [State.stepPort, if_neg (by simp [h])]

/-- The CPU's step after an IN or OUT, where the engine is halted (R259). -/
theorem stepPort_of_halted {s : State} (h : s.cpuHalted = true) :
    s.stepPort = s.haltedStep (Config.cpuStep s.draws s.cpuView) := by
  rw [State.stepPort, if_pos h]

end Sys2Proof.Machine
end

