-- ==== Sys2Proof/Laws/Memory.lean ====
section
/-! SUPPORT. The laws of the memory store: every operation keeps the canonical form and the bound of the addresses, and a read
after a write gives the byte written there and the old byte everywhere else. -/

namespace Sys2Proof.Machine

@[simp] theorem Memory.read_nil (a : Nat) : Memory.read [] a = unlisted := rfl

theorem Memory.wf_tail {c : Host.Cell} {m : Memory} (h : Memory.wf (c :: m)) : Memory.wf m :=
  ⟨(List.pairwise_cons.1 h.1).2, fun d hd => h.2 d (List.mem_cons_of_mem _ hd)⟩

/-- An address below every entry reads as unlisted. -/
theorem Memory.read_below {m : Memory} {a : Nat} (h : ∀ c ∈ m, a < c.1) : Memory.read m a = unlisted := by
  induction m with
  | nil => rfl
  | cons c m ih =>
    obtain ⟨b, w⟩ := c
    have hb : a < b := h (b, w) (by simp)
    have : a ≠ b := by omega
    simp only [Memory.read, this, if_false]
    exact ih fun d hd => h d (List.mem_cons_of_mem _ hd)

theorem Memory.read_below_head {b : Nat} {w : Byte} {m : Memory} {a : Nat}
    (h : Memory.wf ((b, w) :: m)) (hab : a ≤ b) : Memory.read m a = unlisted :=
  Memory.read_below fun c hc => lt_of_le_of_lt hab ((List.pairwise_cons.1 h.1).1 c hc)

/-- Where an entry of a written store comes from. -/
theorem Memory.mem_write {m : Memory} {a : Nat} {v : Byte} {c : Host.Cell} (h : c ∈ Memory.write m a v) :
    (c = (a, v) ∧ v ≠ unlisted) ∨ c ∈ m := by
  induction m with
  | nil =>
    simp only [Memory.write] at h
    split at h
    · simp at h
    · rename_i hv
      exact .inl ⟨by simpa using h, hv⟩
  | cons d m ih =>
    obtain ⟨b, w⟩ := d
    simp only [Memory.write] at h
    split at h
    · split at h
      · exact .inr h
      · rename_i hv
        rcases List.mem_cons.1 h with h | h
        · exact .inl ⟨h, hv⟩
        · exact .inr h
    · split at h
      · split at h
        · exact .inr (List.mem_cons_of_mem _ h)
        · rename_i hv
          rcases List.mem_cons.1 h with h | h
          · exact .inl ⟨h, hv⟩
          · exact .inr (List.mem_cons_of_mem _ h)
      · rcases List.mem_cons.1 h with h | h
        · exact .inr (h ▸ List.mem_cons_self)
        · rcases ih h with h | h
          · exact .inl h
          · exact .inr (List.mem_cons_of_mem _ h)

theorem Memory.write_wf {m : Memory} (h : Memory.wf m) (a : Nat) (v : Byte) : Memory.wf (Memory.write m a v) := by
  refine ⟨?_, fun c hc => ?_⟩
  · induction m with
    | nil =>
      simp only [Memory.write]
      split <;> simp
    | cons d m ih =>
      obtain ⟨b, w⟩ := d
      have hp := List.pairwise_cons.1 h.1
      simp only [Memory.write]
      split
      · rename_i hab
        split
        · exact h.1
        · refine List.pairwise_cons.2 ⟨fun c hc => ?_, h.1⟩
          rcases List.mem_cons.1 hc with rfl | hc
          · exact hab
          · exact lt_trans hab (hp.1 c hc)
      · split
        · rename_i _ hab
          split
          · exact hp.2
          · exact List.pairwise_cons.2 ⟨fun c hc => by simpa [hab] using hp.1 c hc, hp.2⟩
        · rename_i h1 h2
          refine List.pairwise_cons.2 ⟨fun c hc => ?_, ih (Memory.wf_tail h)⟩
          rcases Memory.mem_write hc with ⟨rfl, -⟩ | hc
          · show b < a
            omega
          · exact hp.1 c hc
  · rcases Memory.mem_write hc with ⟨rfl, hv⟩ | hc
    · exact hv
    · exact h.2 c hc

/-- Read after write, on a store in canonical form. -/
theorem Memory.read_write {m : Memory} (h : Memory.wf m) (a : Nat) (v : Byte) (x : Nat) :
    Memory.read (Memory.write m a v) x = if x = a then v else Memory.read m x := by
  induction m with
  | nil =>
    simp only [Memory.write]
    split
    · rename_i hv
      split <;> simp [hv]
    · simp [Memory.read]
  | cons d m ih =>
    obtain ⟨b, w⟩ := d
    simp only [Memory.write]
    split
    · rename_i hab
      have below : ∀ c ∈ (b, w) :: m, a < c.1 := by
        intro c hc
        rcases List.mem_cons.1 hc with rfl | hc
        · exact hab
        · exact lt_trans hab ((List.pairwise_cons.1 h.1).1 c hc)
      split
      · rename_i hv
        split
        · rename_i hxa
          rw [hxa, Memory.read_below below, hv]
        · rfl
      · simp [Memory.read]
    · split
      · rename_i _ hab
        subst hab
        split
        · rename_i hv
          split
          · rename_i hxa
            rw [hxa, Memory.read_below_head h (le_refl _), hv]
          · rename_i hxa
            simp [Memory.read, hxa]
        · simp only [Memory.read]
          split <;> rfl
      · rename_i h1 h2
        simp only [Memory.read, ih (Memory.wf_tail h)]
        split
        · rename_i hxb
          subst hxb
          simp [Ne.symm h2]
        · rfl

theorem Memory.writeAll_wf {m : Memory} (h : Memory.wf m) (size : Nat) (ws : List (Nat × Byte)) :
    Memory.wf (Memory.writeAll m size ws) := by
  unfold Memory.writeAll
  induction ws generalizing m with
  | nil => exact h
  | cons w ws ih => exact ih (Memory.write_wf h _ _)

theorem Memory.writeAll_inside {m : Memory} {size : Nat} (hs : 0 < size) (h : ∀ c ∈ m, c.1 < size)
    (ws : List (Nat × Byte)) : ∀ c ∈ Memory.writeAll m size ws, c.1 < size := by
  unfold Memory.writeAll
  induction ws generalizing m with
  | nil => exact h
  | cons w ws ih =>
    refine ih fun c hc => ?_
    rcases Memory.mem_write hc with ⟨rfl, -⟩ | hc
    · exact Nat.mod_lt _ hs
    · exact h c hc

theorem imageCells_above {base : Nat} {image : List Byte} {c : Host.Cell} (h : c ∈ imageCells base image) :
    base ≤ c.1 ∧ c.1 < base + image.length ∧ c.2 ≠ unlisted := by
  induction image generalizing base with
  | nil => simp [imageCells] at h
  | cons b bs ih =>
    simp only [imageCells] at h
    split at h
    · have := ih h
      simp only [List.length_cons]
      exact ⟨by omega, by omega, this.2.2⟩
    · rename_i hb
      rcases List.mem_cons.1 h with rfl | h
      · exact ⟨le_refl _, by simp, hb⟩
      · have := ih h
        simp only [List.length_cons]
        exact ⟨by omega, by omega, this.2.2⟩

/-- The loaded image is in canonical form. -/
theorem imageCells_wf (base : Nat) (image : List Byte) : Memory.wf (imageCells base image) := by
  refine ⟨?_, fun c hc => (imageCells_above hc).2.2⟩
  induction image generalizing base with
  | nil => simp [imageCells]
  | cons b bs ih =>
    simp only [imageCells]
    split
    · exact ih _
    · exact List.pairwise_cons.2 ⟨fun c hc => (imageCells_above hc).1, ih _⟩

/-- After loading, address `base + k` holds the image's byte `k`. -/
theorem read_imageCells (base : Nat) (image : List Byte) (k : Nat) :
    Memory.read (imageCells base image) (base + k) = image.getD k unlisted := by
  induction image generalizing base k with
  | nil => simp [imageCells]
  | cons b bs ih =>
    have rest : ∀ j, Memory.read (imageCells (base + 1) bs) (base + (j + 1)) = bs.getD j unlisted := fun j => by
      rw [show base + (j + 1) = base + 1 + j by omega]
      exact ih (base + 1) j
    have here : Memory.read (imageCells (base + 1) bs) base = unlisted :=
      Memory.read_below fun c hc => (imageCells_above hc).1
    cases k with
    | zero =>
      simp only [imageCells, Nat.add_zero]
      split
      · rename_i hb
        simp [here, hb]
      · simp [Memory.read]
    | succ k =>
      simp only [imageCells]
      split
      · simpa using rest k
      · have : base + (k + 1) ≠ base := by omega
        simpa [Memory.read, this] using rest k

/-- The store at power-up, byte by byte (R250 step 1). -/
theorem getD_initialBytes (p : Params) (k : Nat) :
    (initialBytes p).getD k unlisted = if k < p.image.length then p.image.getD k unlisted else p.memInit.getD k unlisted := by
  simp only [initialBytes, List.getD_eq_getElem?_getD]
  split
  · rename_i h
    rw [List.getElem?_append_left h]
  · rename_i h
    rw [List.getElem?_append_right (by omega), List.getElem?_drop]
    congr 2
    omega

/-- The image and the drawn bytes stay inside a store that both fit into. -/
theorem length_initialBytes_le {p : Params} {n : Nat} (h1 : p.image.length ≤ n) (h2 : p.memInit.length ≤ n) :
    (initialBytes p).length ≤ n := by
  simp only [initialBytes, List.length_append, List.length_drop]
  omega

/-- A run of writes, one at a time. -/
@[simp] theorem Memory.writeAll_nil (m : Memory) (size : Nat) : Memory.writeAll m size [] = m := rfl

@[simp] theorem Memory.writeAll_cons (m : Memory) (size : Nat) (w : Nat × Byte) (ws : List (Nat × Byte)) :
    Memory.writeAll m size (w :: ws) = Memory.writeAll (Memory.write m (w.1 % size) w.2) size ws := rfl

end Sys2Proof.Machine
end

