-- ==== Sys2Proof/Laws/Step.lean ====
section
/-! SUPPORT. What one step can do, said once, and the memory the reset leaves. -/

namespace Sys2Proof.Machine

/-- What one iteration of a burst can do: run a decoded instruction, or pass any other opcode to the CPU. -/
theorem burstIteration_cases {s t : State} (h : s.burstIteration exec = .next t) :
    (∃ i, s.fetch = .ok i ∧ exec i s = .next t) ∨ ((∃ r, s.fetch = .error r) ∧ t = s.stepOther) := by
  unfold State.burstIteration at h
  split at h
  · exact .inl ⟨_, ‹_›, h⟩
  · exact .inr ⟨⟨_, ‹_›⟩, by simpa using h.symm⟩

/-- What one step can do (40_frame_scheduler.md R101). -/
theorem step_cases {s t : State} (h : step s = .next t) :
    s.status = .running ∧
    ((s.phase = .burst1 ∧ s.params.half ≤ s.cyc ∧ t = { s with phase := .deliver }) ∨
     (s.phase = .burst1 ∧ s.cyc < s.params.half ∧ s.burstIteration exec = .next t) ∨
     (s.phase = .deliver ∧ t = s.deliver) ∨
     (s.phase = .burst2 ∧ s.params.frameCycles ≤ s.cyc ∧ t = { s with phase := .decode }) ∨
     (s.phase = .burst2 ∧ s.cyc < s.params.frameCycles ∧ s.burstIteration exec = .next t) ∨
     (s.phase = .decode ∧ t = s.decodeAndPublish) ∨
     (s.phase = .poll ∧ t = s.poll)) := by
  unfold step State.transition at h
  split at h
  · simp at h
  · simp at h
  · refine ⟨‹_›, ?_⟩
    split at h
    · split at h
      · exact .inl ⟨‹_›, ‹_›, by simpa using h.symm⟩
      · exact .inr (.inl ⟨‹_›, by omega, h⟩)
    · exact .inr (.inr (.inl ⟨‹_›, by simpa using h.symm⟩))
    · split at h
      · exact .inr (.inr (.inr (.inl ⟨‹_›, ‹_›, by simpa using h.symm⟩)))
      · exact .inr (.inr (.inr (.inr (.inl ⟨‹_›, by omega, h⟩))))
    · exact .inr (.inr (.inr (.inr (.inr (.inl ⟨‹_›, by simpa using h.symm⟩)))))
    · exact .inr (.inr (.inr (.inr (.inr (.inr ⟨‹_›, by simpa using h.symm⟩)))))

/-- What a poll does (R107): the run exits, or the next frame starts. -/
theorem poll_cases (s : State) :
    (((Config.keyDown s.draws s.params.exitKey || !Config.surfaceOpen s.draws) = true) ∧
      s.poll = (({ s with draws := s.draws + 1 } : State).pollSwitches (Config.keyDown s.draws)).exitRun) ∨
    (((Config.keyDown s.draws s.params.exitKey || !Config.surfaceOpen s.draws) = false) ∧
      s.poll = { ({ s with draws := s.draws + 1 } : State).pollSwitches (Config.keyDown s.draws) with
                 phase := .burst1, cyc := 0 }) := by
  unfold State.poll State.pollWith
  split
  · exact .inl ⟨‹_›, rfl⟩
  · exact .inr ⟨Bool.eq_false_iff.2 ‹_›, rfl⟩

/-- The memory of a powered-up machine is in canonical form. -/
theorem powerUp_mem_wf (p : Params) : Memory.wf (State.powerUp p).mem := imageCells_wf 0 (initialBytes p)

/-- The memory right after reset is in canonical form: nothing is listed. -/
theorem reset_mem_wf : Memory.wf State.reset.mem := powerUp_mem_wf referenceParams

/-- The reference parameters meet the constraints of R9 to R13. -/
theorem referenceParams_wf : referenceParams.wf where
  opcodes_differ := by decide
  addr_fits := by decide
  mem_size := by decide
  image_fits := by decide
  init_fits := by decide
  window_fits := by decide
  window_formed := by decide
  edge_in_green := by decide
  green_then_red := by decide
  red_order := by decide
  red_in_frame := by decide
  edge_order := by decide
  edge_in_frame := by decide
  exit_unbound := by
    intro e he
    have := (List.mem_filter.1 he).2
    exact of_decide_eq_true this

end Sys2Proof.Machine
end

