-- ==== Sys2Proof/Laws/Exec.lean ====
section
/-! SUPPORT. What one instruction can do, said once for all of them, and what the CPU engine's own `step()` can do. -/

namespace Sys2Proof.Machine

/-- What one instruction can do: a legal read, a legal write, or the fatal fault. -/
theorem exec_cases {i : Instr} {s t : State} (h : exec i s = .next t) :
    (∃ v u, s.portRead i.port = some (v, u) ∧ t = (u.setA v).stepPort) ∨
    (∃ u, s.portWrite i.port s.a = some u ∧ t = u.stepPort) ∨ ∃ info, t = s.raiseFatal info := by
  have ht := Host.Outcome.next.inj (h.symm.trans (exec_eq_run i s))
  have hcls : i.cls = .input ∨ i.cls = .output := by cases i <;> simp [Instr.cls]
  rcases hcls with hc | hc <;> rw [hc] at ht <;> simp only at ht
  · rcases runIn_cases s i.port with ⟨v, u, hu, hr⟩ | ⟨_, hr⟩
    · exact .inl ⟨v, u, hu, ht.trans hr⟩
    · exact .inr (.inr ⟨_, ht.trans hr⟩)
  · rcases runOut_cases s i.port with ⟨u, hu, hr⟩ | ⟨_, hr⟩
    · exact .inr (.inl ⟨u, hu, ht.trans hr⟩)
    · exact .inr (.inr ⟨_, ht.trans hr⟩)

/-- What the `step()` after an IN or OUT does to `pc` and `cyc` (R123, R259). -/
theorem stepPort_pc_cyc (s : State) :
    (s.stepPort.pc = addrWrap s.params (s.pc + 2) ∨ s.stepPort.pc = s.pc) ∧ s.cyc ≤ s.stepPort.cyc := by
  unfold State.stepPort
  split <;> simp

/-- What a `step()` at any other opcode does to `pc`, `cyc` and the memory store (R244). -/
theorem stepOther_pc_cyc_mem (s : State) :
    ((∃ n, s.stepOther.pc = addrWrap s.params n) ∨ s.stepOther.pc = s.pc) ∧ s.cyc ≤ s.stepOther.cyc ∧
    ∃ ws, s.stepOther.mem = Memory.writeAll s.mem s.params.memSize ws := by
  unfold State.stepOther
  split
  · exact ⟨.inr rfl, Nat.le_add_right _ _, [], rfl⟩
  · exact ⟨.inl ⟨_, rfl⟩, Nat.le_add_right _ _, _, rfl⟩

end Sys2Proof.Machine
end

