-- ==== Sys2Proof/Laws/PerInstr.lean ====
section
/-! SUPPORT. Statements about every instruction as syntax, one lemma for each constructor. -/

namespace Sys2Proof.Laws.EncodedClass

/-- Byte 0 of the encoding has the instruction's class (30_encoding.md R80, R81). -/
def Statement (i : Instr) : Prop :=
  ∀ p : Params, p.opcIn ≠ p.opcOut → ∃ op, encode p i = [op, i.port] ∧ classify p op = i.cls

theorem input_class (p : Params) : classify p p.opcIn = .input := by simp [classify]

theorem output_class (p : Params) (h : p.opcIn ≠ p.opcOut) : classify p p.opcOut = .output := by
  simp [classify, Ne.symm h]

theorem of_input {i : Instr} (h : i.cls = .input) : Statement i :=
  fun p _ => ⟨p.opcIn, by simp [encode, opcodeByte, h], by rw [h]; exact input_class p⟩

theorem of_output {i : Instr} (h : i.cls = .output) : Statement i :=
  fun p hp => ⟨p.opcOut, by simp [encode, opcodeByte, h], by rw [h]; exact output_class p hp⟩

theorem in0 : Statement .in0 := of_input rfl
theorem in1 : Statement .in1 := of_input rfl
theorem in2 : Statement .in2 := of_input rfl
theorem in3 : Statement .in3 := of_input rfl
theorem inIllegal4to7 (port : Byte) : Statement (.inIllegal4to7 port) := of_input rfl
theorem inIllegal8to15 (port : Byte) : Statement (.inIllegal8to15 port) := of_input rfl
theorem inIllegal16to31 (port : Byte) : Statement (.inIllegal16to31 port) := of_input rfl
theorem inIllegal32to63 (port : Byte) : Statement (.inIllegal32to63 port) := of_input rfl
theorem inIllegal64to127 (port : Byte) : Statement (.inIllegal64to127 port) := of_input rfl
theorem inIllegal128to255 (port : Byte) : Statement (.inIllegal128to255 port) := of_input rfl
theorem outIllegal0to1 (port : Byte) : Statement (.outIllegal0to1 port) := of_output rfl
theorem out2 : Statement .out2 := of_output rfl
theorem out3 : Statement .out3 := of_output rfl
theorem out4 : Statement .out4 := of_output rfl
theorem out5 : Statement .out5 := of_output rfl
theorem out6 : Statement .out6 := of_output rfl
theorem out7 : Statement .out7 := of_output rfl
theorem outIllegal8to15 (port : Byte) : Statement (.outIllegal8to15 port) := of_output rfl
theorem outIllegal16to31 (port : Byte) : Statement (.outIllegal16to31 port) := of_output rfl
theorem outIllegal32to63 (port : Byte) : Statement (.outIllegal32to63 port) := of_output rfl
theorem outIllegal64to127 (port : Byte) : Statement (.outIllegal64to127 port) := of_output rfl
theorem outIllegal128to255 (port : Byte) : Statement (.outIllegal128to255 port) := of_output rfl

end Sys2Proof.Laws.EncodedClass
end

