-- ==== Sys2Proof/Tests/Slice0.lean ====
section
/-! SUPPORT. Tests of one decode, one operation or one step each, with the results of 95_test_vectors.md (the vector's name
stands beside each test), and, for each statement with hypotheses, a witness that meets them. -/

namespace Sys2Proof.Machine

/-- Concrete parameters: the reference values, with the binding list of 95_test_vectors.md 2.6 (K1..K4 are 1..4). -/
def testParams : Params :=
  { referenceParams with
    bindings := [⟨1, .port1, 0⟩, ⟨2, .port1, 4⟩, ⟨3, .port2, 2⟩, ⟨4, .port1, 0⟩], exitKey := 99,
    samples := Vector.replicate 10 [] }

/-- A machine just powered up with the concrete parameters. -/
def testState : State := State.powerUp testParams

/-- The state an outcome goes on to; the given one where it stops. -/
def afterOr (s : State) (o : Host.Outcome State Fault Refusal) : State :=
  match o with
  | .next t => t
  | .fault _ => s
  | .refused _ => s

/-- The state after one instruction. -/
def after (i : Instr) (s : State) : State := afterOr s (exec i s)

/-! ### Well-formedness: each check refuses a term -/

theorem test_wf_refuses_wrong_ports :
    (Instr.inIllegal4to7 3).wf = false ∧ (Instr.inIllegal4to7 8).wf = false ∧ (Instr.inIllegal8to15 7).wf = false ∧
    (Instr.inIllegal16to31 32).wf = false ∧ (Instr.inIllegal32to63 31).wf = false ∧
    (Instr.inIllegal64to127 128).wf = false ∧ (Instr.inIllegal128to255 127).wf = false ∧
    (Instr.outIllegal0to1 2).wf = false ∧ (Instr.outIllegal8to15 7).wf = false ∧ (Instr.outIllegal16to31 15).wf = false ∧
    (Instr.outIllegal32to63 64).wf = false ∧ (Instr.outIllegal64to127 63).wf = false ∧
    (Instr.outIllegal128to255 0).wf = false := by decide

theorem test_wf_accepts_edges :
    (Instr.inIllegal4to7 4).wf = true ∧ (Instr.inIllegal4to7 7).wf = true ∧ (Instr.outIllegal0to1 0).wf = true ∧
    (Instr.outIllegal0to1 1).wf = true ∧ (Instr.outIllegal128to255 128).wf = true ∧
    (Instr.outIllegal128to255 255).wf = true ∧ Instr.in0.wf = true ∧ Instr.out7.wf = true := by decide

/-! ### Decoding: each row's word, written out from the `encoding` of spec/opcode_table.json (R84, R85) -/

theorem test_decode_in_0 : decodeTableWord 16 0b1101101100000000 = some .in0 := by decide
theorem test_decode_in_1 : decodeTableWord 16 0b1101101100000001 = some .in1 := by decide
theorem test_decode_in_2 : decodeTableWord 16 0b1101101100000010 = some .in2 := by decide
theorem test_decode_in_3 : decodeTableWord 16 0b1101101100000011 = some .in3 := by decide
theorem test_decode_in_4_to_7 : decodeTableWord 16 0b1101101100000110 = some (.inIllegal4to7 6) := by decide
theorem test_decode_in_8_to_15 : decodeTableWord 16 0b1101101100001101 = some (.inIllegal8to15 13) := by decide
theorem test_decode_in_16_to_31 : decodeTableWord 16 0b1101101100010000 = some (.inIllegal16to31 16) := by decide
theorem test_decode_in_32_to_63 : decodeTableWord 16 0b1101101100111111 = some (.inIllegal32to63 63) := by decide
theorem test_decode_in_64_to_127 : decodeTableWord 16 0b1101101101000001 = some (.inIllegal64to127 65) := by decide
theorem test_decode_in_128_to_255 : decodeTableWord 16 0b1101101110000000 = some (.inIllegal128to255 128) := by decide
theorem test_decode_out_0_to_1 : decodeTableWord 16 0b1101001100000000 = some (.outIllegal0to1 0) := by decide
theorem test_decode_out_2 : decodeTableWord 16 0b1101001100000010 = some .out2 := by decide
theorem test_decode_out_3 : decodeTableWord 16 0b1101001100000011 = some .out3 := by decide
theorem test_decode_out_4 : decodeTableWord 16 0b1101001100000100 = some .out4 := by decide
theorem test_decode_out_5 : decodeTableWord 16 0b1101001100000101 = some .out5 := by decide
theorem test_decode_out_6 : decodeTableWord 16 0b1101001100000110 = some .out6 := by decide
theorem test_decode_out_7 : decodeTableWord 16 0b1101001100000111 = some .out7 := by decide
theorem test_decode_out_8_to_15 : decodeTableWord 16 0b1101001100001111 = some (.outIllegal8to15 15) := by decide
theorem test_decode_out_16_to_31 : decodeTableWord 16 0b1101001100010101 = some (.outIllegal16to31 21) := by decide
theorem test_decode_out_32_to_63 : decodeTableWord 16 0b1101001100100000 = some (.outIllegal32to63 32) := by decide
theorem test_decode_out_64_to_127 : decodeTableWord 16 0b1101001101111111 = some (.outIllegal64to127 127) := by decide
theorem test_decode_out_128_to_255 : decodeTableWord 16 0b1101001111111111 = some (.outIllegal128to255 255) := by decide

/-- PB13, PB15: `3E DB` and `00` are class `Other`, although the second byte of the first is the IN opcode. -/
theorem test_decode_other : decode testParams [0x3E, 0xDB] = .error (.otherOpcode 0x3E) ∧
    decode testParams [0x00] = .error (.otherOpcode 0x00) ∧ decode testParams [0xDB] = .error .operandMissing := by decide

/-- The reference words of R141 and R142, as bytes. -/
theorem test_encode : encode testParams .in3 = [0xDB, 0x03] ∧ encode testParams .out2 = [0xD3, 0x02] := by decide

/-! ### The switch ports, the watchdog, the spare port and the illegal ports (95_test_vectors.md 2.1) -/

/-- PB2. -/
theorem test_in_0 : (after .in0 { testState with switch0 := 0x5A }).a = 0x5A := by decide

/-- PB3, and R123: `pc` moves past the two bytes. -/
theorem test_in_1 : (after .in1 { testState with switch1 := 0x11, pc := 0x0123 }).a = 0x11 ∧
    (after .in1 { testState with switch1 := 0x11, pc := 0x0123 }).pc = 0x0125 := by decide

/-- R123: at the top of the address space `pc` wraps. -/
theorem test_in_1_pc_wraps : (after .in1 { testState with pc := 0xFFFF }).pc = 0x0001 := by decide

/-- PB4: port 2 as a read is switch2, not shiftAmount. -/
theorem test_in_2 : (after .in2 { testState with switch2 := 0x80, shiftAmount := 3 }).a = 0x80 := by decide

/-- PB5, E12. -/
theorem test_out_6 : (after .out6 { testState with a := 0x5A }).watchdog = 0x5A ∧
    (after .out6 { testState with a := 0xFF, shiftData := 0x1234 }).shiftData = 0x1234 := by decide

/-- PB6, E12: no latch changes and no event is emitted. -/
theorem test_out_7 : (after .out7 { testState with a := 0xFF, soundLatch1 := 0x03 }).soundLatch1 = 0x03 ∧
    (after .out7 { testState with a := 0xFF }).trace = [] := by decide

/-- PB7, PB8: IN 6 and IN 4 at `pc = 0x0123`; A and `pc` stay. -/
theorem test_in_4_to_7 :
    (after (.inIllegal4to7 6) { testState with pc := 0x0123, a := 7 }).status = .faulted (.portRead 6 0x0123) ∧
    (after (.inIllegal4to7 6) { testState with pc := 0x0123, a := 7 }).a = 7 ∧
    (after (.inIllegal4to7 4) { testState with pc := 0x0123 }).pc = 0x0123 := by decide

/-- R127, R221: code 1 is emitted. -/
theorem test_in_8_to_15 : (after (.inIllegal8to15 8) testState).trace = [.fatal 1 (.portRead 8 0)] := by decide

theorem test_in_16_to_31 : (after (.inIllegal16to31 31) testState).status = .faulted (.portRead 31 0) := by decide

theorem test_in_32_to_63 : (after (.inIllegal32to63 32) testState).status = .faulted (.portRead 32 0) := by decide

theorem test_in_64_to_127 : (after (.inIllegal64to127 127) testState).status = .faulted (.portRead 127 0) := by decide

/-- PB9, EX3. -/
theorem test_in_128_to_255 :
    (after (.inIllegal128to255 255) { testState with pc := 0x0010 }).status = .faulted (.portRead 255 0x0010) ∧
    (after (.inIllegal128to255 200) testState).trace = [.fatal 1 (.portRead 200 0)] := by decide

/-- PB10, PB11. -/
theorem test_out_0_to_1 :
    (after (.outIllegal0to1 1) { testState with pc := 0x0200, a := 0x03 }).status =
      .faulted (.portWrite 1 0x0200 0x03) ∧
    (after (.outIllegal0to1 0) { testState with pc := 0x0200 }).trace =
      [.fatal 2 (.portWrite 0 0x0200 0x00)] := by decide

/-- PB12. -/
theorem test_out_8_to_15 : (after (.outIllegal8to15 8) { testState with pc := 0x0300, a := 0x77 }).status =
    .faulted (.portWrite 8 0x0300 0x77) := by decide

theorem test_out_16_to_31 : (after (.outIllegal16to31 16) testState).status = .faulted (.portWrite 16 0 0) := by decide

theorem test_out_32_to_63 : (after (.outIllegal32to63 63) testState).status = .faulted (.portWrite 63 0 0) := by decide

theorem test_out_64_to_127 : (after (.outIllegal64to127 64) testState).status = .faulted (.portWrite 64 0 0) := by decide

theorem test_out_128_to_255 : (after (.outIllegal128to255 255) testState).status = .faulted (.portWrite 255 0 0) := by decide

/-! ### The shift register (2.2) -/

/-- The rows `0xABCD`, `0x8001` and `0x00FF` of the window table, at its ends and middle. -/
theorem test_window_table :
    shiftWindow 0xABCD 0 = 0xAB ∧ shiftWindow 0xABCD 3 = 0x5E ∧ shiftWindow 0xABCD 7 = 0xE6 ∧
    shiftWindow 0x8001 0 = 0x80 ∧ shiftWindow 0x8001 1 = 0x00 ∧ shiftWindow 0x00FF 7 = 0x7F := by decide

/-- E1: A and the cache. -/
theorem test_in_3 : (after .in3 { testState with shiftData := 0xABCD }).a = 0xAB ∧
    (after .in3 { testState with shiftData := 0xABCD, shiftAmount := 7 }).shiftOut = 0xE6 := by decide

/-- SR6: a load leaves the cache stale. -/
theorem test_in_3_stale_cache : (after .out4 { testState with shiftData := 0xABCD, shiftOut := 0x5E }).shiftOut = 0x5E ∧
    (after .in3 { testState with shiftData := 0x00AB, shiftAmount := 3, shiftOut := 0x5E }).a = 0x05 := by decide

/-- The `OUT 2` list of 2.2. -/
theorem test_out_2 : (after .out2 { testState with a := 0xFA }).shiftAmount = 2 ∧
    (after .out2 { testState with a := 0x08 }).shiftAmount = 0 ∧
    (after .out2 { testState with a := 0xFF }).shiftAmount = 7 := by decide

/-- E3, SR3, SR4. -/
theorem test_out_4 : (after .out4 { testState with shiftData := 0x1234, a := 0x56 }).shiftData = 0x5612 ∧
    (after .out4 { testState with shiftData := 0xFFFF, a := 0x00 }).shiftData = 0x00FF ∧
    (after .out4 { testState with shiftData := 0x00FF, a := 0x00 }).shiftData = 0x0000 := by decide

/-! ### The audio trigger (2.3) -/

/-- AT6, AT7, AT18. -/
theorem test_out_3 :
    (after .out3 { testState with soundLatch1 := 0x05, a := 0x0A }).trace = [.play 1, .play 3] ∧
    (after .out3 { testState with soundLatch1 := 0xF0, a := 0xFF }).trace = [.play 0, .play 1, .play 2, .play 3] ∧
    (after .out3 { testState with soundLatch1 := 0x10, a := 0x11 }).trace = [.play 0] := by decide

/-- AT2, AT3, AT5: no event; an unmapped bit is stored. -/
theorem test_out_3_silent : (after .out3 { testState with soundLatch1 := 0x01, a := 0x01 }).trace = [] ∧
    (after .out3 { testState with soundLatch1 := 0x01, a := 0x00 }).trace = [] ∧
    (after .out3 { testState with a := 0x10 }).soundLatch1 = 0x10 := by decide

/-- AT10, AT14. -/
theorem test_out_5 :
    (after .out5 { testState with a := 0x1F }).trace = [.play 4, .play 5, .play 6, .play 7, .play 8] ∧
    (after .out5 { testState with soundLatch2 := 0x0A, a := 0x15 }).trace = [.play 4, .play 6, .play 8] := by decide

/-- AT11, AT17: unmapped bits are silent, and bank 1 is not touched. -/
theorem test_out_5_bank_2_only : (after .out5 { testState with a := 0xE0 }).trace = [] ∧
    (after .out5 { testState with a := 0xE0 }).soundLatch2 = 0xE0 ∧
    (after .out5 { testState with a := 0x01 }).soundLatch1 = 0x00 := by decide

/-! ### The video decoder (2.4): rows of the fixture table -/

theorem test_pixel_map :
    pixelByte 0 255 = 0 ∧ pixelBit 255 = 0 ∧ pixelByte 0 0 = 31 ∧ pixelBit 0 = 7 ∧ pixelByte 223 0 = 7167 ∧
    pixelByte 50 45 = 1626 ∧ pixelBit 45 = 2 ∧ pixelByte 100 231 = 3203 ∧ pixelBit 231 = 0 := by decide

theorem test_colours :
    colour testParams 15 255 true = .white ∧ colour testParams 16 255 true = .green ∧
    colour testParams 133 255 true = .green ∧ colour testParams 134 255 true = .white ∧
    colour testParams 50 192 true = .green ∧ colour testParams 50 191 true = .white ∧
    colour testParams 50 52 true = .white ∧ colour testParams 50 51 true = .red ∧
    colour testParams 50 32 true = .red ∧ colour testParams 50 31 true = .white ∧
    colour testParams 50 45 false = .black := by decide

/-- R187: the reference packing, `0x00RRGGBB`. -/
theorem test_packing : packColour testParams .black = 0x000000 ∧ packColour testParams .green = 0x00FF00 ∧
    packColour testParams .red = 0xFF0000 ∧ packColour testParams .white = 0xFFFFFF := by decide

/-- E8: byte `0x2A5A`, bit 2 is output pixel (50, 45). -/
theorem test_pixel_lit : pixelLit testParams [(0x2A5A, 0x04)] 50 45 = true ∧
    pixelLit testParams [(0x2A5A, 0x04)] 50 46 = false := by decide

/-! ### The frame scheduler (2.5), one step each -/

/-- FS8, FS13: a burst at its threshold runs nothing. -/
theorem test_burst_ends :
    (afterOr testState (step { testState with cyc := 16666 })).phase = .deliver ∧
    (afterOr testState (step { testState with phase := .burst2, cyc := 33333 })).phase = .decode := by decide

/-- RS3, E14: the first delivery. -/
theorem test_deliver : (afterOr testState (step { testState with phase := .deliver })).trace = [.inject 0x0008] ∧
    (afterOr testState (step { testState with phase := .deliver })).cursor = .second ∧
    (afterOr testState (step { testState with phase := .deliver, cursor := .second })).trace = [.inject 0x0010] := by
  decide

/-- PB14: IN 1 across the top of the address space. -/
theorem test_step_across_top :
    (afterOr testState (step { testState with
      pc := 0xFFFF, mem := [(0x0000, 0x01), (0xFFFF, 0xDB)], switch1 := 0x22 })).a = 0x22 := by decide

/-- 95_test_vectors.md P3: IN 7 at `0x0009` faults before its step. -/
theorem test_step_faults :
    (afterOr testState (step { testState with
      pc := 0x0009, a := 0x01, mem := [(0x0009, 0xDB), (0x000A, 0x07)] })).trace =
        [.fatal 1 (.portRead 7 0x0009)] := by decide

/-- EX2: nothing follows a fault or an exit. -/
theorem test_terminal : step { testState with status := .exited 0 } = .fault (.runExited 0) ∧
    step { testState with status := .faulted (.portRead 7 9) } = .fault (.runFaulted (.portRead 7 9)) := ⟨rfl, rfl⟩

/-- FS19, IM8: the poll with the surface closed, and with the exit key held; FS17: with neither, `cyc` is 0. -/
theorem test_poll :
    (State.pollWith { testState with phase := .poll } (fun _ => false) false).trace = [.exit 0] ∧
    (State.pollWith { testState with phase := .poll } (fun k => k == 99) true).status = .exited 0 ∧
    (State.pollWith { testState with phase := .poll, cyc := 40000 } (fun _ => false) true).cyc = 0 := by decide

/-- The placed instruction is the one the next step runs: `DB 03` at reset. -/
theorem test_with_fetch_word :
    (afterOr testState (step (State.withFetchWord { testState with shiftData := 0xABCD } 16 0xDB03))).a = 0xAB ∧
    (afterOr testState (step (State.withFetchWord { testState with phase := .poll, a := 0x5A } 16 0xD306))).watchdog =
      0x5A := by decide

/-! ### The input mapper (2.6) -/

/-- IM3, IM4, IM5, IM6. -/
theorem test_poll_bindings :
    applyBindings (fun _ => false) testParams.bindings (0xFF, 0xFF) = (0xEE, 0xFB) ∧
    applyBindings (fun k => k == 1) testParams.bindings (0x00, 0x00) = (0x00, 0x00) ∧
    applyBindings (fun k => k == 4) testParams.bindings (0x00, 0x00) = (0x01, 0x00) ∧
    applyBindings (fun k => k == 1 || k == 4) testParams.bindings (0x40, 0x00) = (0x41, 0x00) := by decide

/-- IM2. -/
theorem test_poll_bindings_both_ports :
    applyBindings (fun k => k == 2 || k == 3) testParams.bindings (0x00, 0x00) = (0x10, 0x04) := by decide

/-! ### Reset and memory -/

/-- RS1. -/
theorem test_reset : State.reset.shiftData = 0x0000 ∧ State.reset.cursor = .first ∧ State.reset.phase = .burst1 ∧
    State.reset.cyc = 0 ∧ State.reset.status = .running ∧ State.reset.mem = [] := by decide

/-- R250 step 1: the image at address 0, bytes equal to the unlisted value without an entry. -/
theorem test_image : (State.powerUp { testParams with image := [0x3E, 0x00, 0xD3] }).mem = [(0, 0x3E), (2, 0xD3)] := by
  decide

/-- R250 step 1, R11: a drawn P_MEM_INIT shows wherever the image does not reach, and not under it. -/
theorem test_mem_init :
    Memory.read (State.powerUp { testParams with image := [0x3E, 0x00], memInit := [0x11, 0x22, 0x33, 0x44] }).mem 1 = 0x00 ∧
    Memory.read (State.powerUp { testParams with image := [0x3E, 0x00], memInit := [0x11, 0x22, 0x33, 0x44] }).mem 2 = 0x33 ∧
    Memory.read (State.powerUp { testParams with image := [0x3E, 0x00], memInit := [0x11, 0x22, 0x33, 0x44] }).mem 4 = 0x00 := by
  decide

/-- R60, R64: a window above the addresses that the block forms is refused. -/
theorem test_window_above_addresses_refused :
    ¬ ({ testParams with memSize := 131072, vramBase := 65536 } : Params).wf := fun h => by
  have : ¬ 65536 + 224 * 32 ≤ 2 ^ 16 := by decide
  exact this h.window_formed

/-- A write lists a byte in address order; writing the unlisted value removes it. -/
theorem test_memory_write : Memory.write [(1, 5), (9, 6)] 4 7 = [(1, 5), (4, 7), (9, 6)] ∧
    Memory.write [(1, 5), (4, 7)] 4 0 = [(1, 5)] ∧ Memory.read [(1, 5)] 2 = 0 := by decide

/-! ### Witnesses: for each statement of Certificates/Slice0/Obligations.lean with hypotheses, what meets them together -/

/-- The concrete parameters meet every constraint. -/
theorem witness_params_wf : testParams.wf where
  opcodes_differ := by decide
  addr_fits := by decide
  mem_size := by decide
  image_fits := by decide
  init_fits := by decide
  window_fits := by decide
  window_formed := by decide
  edge_in_green := by decide
  green_then_red := by decide
  red_order := by decide
  red_in_frame := by decide
  edge_order := by decide
  edge_in_frame := by decide
  exit_unbound := by decide

/-- PowerUpMeetsInvariants: the concrete parameters and the reference parameters. -/
theorem witness_PowerUpMeetsInvariants : testParams.wf ∧ referenceParams.wf := ⟨witness_params_wf, referenceParams_wf⟩

/-- PowerUpPortReads: each of the five reads and writes answers; the bits 0, 3 and 0, 4 are the ends of the two banks. -/
theorem witness_PowerUpPortReads :
    (∃ t, exec .in1 testState = .next t) ∧ (∃ t, exec .in2 testState = .next t) ∧ (∃ t, exec .in3 testState = .next t) ∧
    (∃ t, exec .out3 { testState with a := 0x09 } = .next t ∧ t.trace = [.play 0, .play 3]) ∧
    (∃ t, exec .out5 { testState with a := 0x11 } = .next t ∧ t.trace = [.play 4, .play 8]) :=
  ⟨⟨_, rfl⟩, ⟨_, rfl⟩, ⟨_, rfl⟩, ⟨_, rfl, by decide⟩, ⟨_, rfl, by decide⟩⟩

/-- DecodeEncodeAgree: the port at each end of a row of each class. -/
theorem witness_DecodeEncodeAgree : testParams.opcIn ≠ testParams.opcOut ∧ Instr.in3.wf = true ∧
    (Instr.inIllegal4to7 4).wf = true ∧ (Instr.inIllegal128to255 255).wf = true ∧ (Instr.outIllegal0to1 1).wf = true ∧
    (Instr.outIllegal8to15 15).wf = true := by decide

theorem witness_DecodedIsWellFormed :
    decode testParams [0xD3, 0x01, 0x3E] = .ok (.outIllegal0to1 1, [0x3E]) ∧
    decode testParams [0xDB, 0xFF] = .ok (.inIllegal128to255 255, []) := by decide

theorem witness_DecoderRejectsByClass :
    ((0x76 : Byte) ≠ testParams.opcIn ∧ (0x76 : Byte) ≠ testParams.opcOut) ∧ (0xDB : Byte) = testParams.opcIn ∧
    (0xD3 : Byte) = testParams.opcOut := by decide

theorem witness_PortDispatch : testState.cpuHalted = false ∧
    ({ testState with cpuHalted := true } : State).cpuHalted = true := by decide

/-- Statements about any step: a step that runs an instruction, one that ends a burst, one that delivers. -/
theorem witness_step_answers :
    (∃ t, step { testState with mem := [(0, 0xDB), (1, 0x01)] } = .next t ∧ t.phase = .burst1) ∧
    (∃ t, step { testState with cyc := 16666 } = .next t ∧ t.phase = .deliver) ∧
    (∃ t, step { testState with phase := .deliver } = .next t ∧ t.phase = .burst2) ∧
    (∃ t, step { testState with phase := .burst2, cyc := 33333 } = .next t ∧ t.phase = .decode) ∧
    (∃ t, step { testState with phase := .decode } = .next t ∧ t.phase = .poll) ∧
    ∃ t, step { testState with phase := .poll } = .next t :=
  ⟨⟨_, rfl, rfl⟩, ⟨_, rfl, rfl⟩, ⟨_, rfl, rfl⟩, ⟨_, rfl, rfl⟩, ⟨_, rfl, rfl⟩, ⟨_, rfl⟩⟩

/-- SwitchPortReads, ParametersNeverChange, TraceOnlyGrows, PhasesInOrder, CyclesResetOnlyAtFrameStart: a step answers, in
phase `Poll` and outside it (each phase: `witness_step_answers`). -/
theorem witness_SwitchPortReads : (∃ t, step testState = .next t) ∧ testState.phase ≠ .poll ∧
    ∃ t, step { testState with phase := .poll } = .next t := ⟨⟨_, rfl⟩, by decide, ⟨_, rfl⟩⟩

/-- In3ReadsWindow: both ends of the offset. -/
theorem witness_In3ReadsWindow : testState.shiftAmount.toNat ≤ 7 ∧
    ({ testState with shiftAmount := 7 } : State).shiftAmount.toNat ≤ 7 := by decide

/-- Out2SetsOffset, Out4LoadsByte, SoundBank1Write, SoundBank2Write, WatchdogAndSparePort. -/
theorem witness_opcodes_differ : testParams.opcIn ≠ testParams.opcOut := by decide

/-- IllegalPortReadFaults: each row's first and last port. -/
theorem witness_IllegalPortReadFaults :
    (Instr.inIllegal4to7 4).wf = true ∧ (Instr.inIllegal4to7 7).wf = true ∧
    (Instr.inIllegal8to15 8).wf = true ∧ (Instr.inIllegal8to15 15).wf = true ∧
    (Instr.inIllegal16to31 16).wf = true ∧ (Instr.inIllegal16to31 31).wf = true ∧
    (Instr.inIllegal32to63 32).wf = true ∧ (Instr.inIllegal32to63 63).wf = true ∧
    (Instr.inIllegal64to127 64).wf = true ∧ (Instr.inIllegal64to127 127).wf = true ∧
    (Instr.inIllegal128to255 128).wf = true ∧ (Instr.inIllegal128to255 255).wf = true ∧
    4 ≤ (4 : Byte).toNat ∧ 4 ≤ (255 : Byte).toNat := by decide

/-- IllegalPortWriteFaults: each row's first and last port. -/
theorem witness_IllegalPortWriteFaults :
    (Instr.outIllegal0to1 0).wf = true ∧ (Instr.outIllegal0to1 1).wf = true ∧
    (Instr.outIllegal8to15 8).wf = true ∧ (Instr.outIllegal8to15 15).wf = true ∧
    (Instr.outIllegal16to31 16).wf = true ∧ (Instr.outIllegal16to31 31).wf = true ∧
    (Instr.outIllegal32to63 32).wf = true ∧ (Instr.outIllegal32to63 63).wf = true ∧
    (Instr.outIllegal64to127 64).wf = true ∧ (Instr.outIllegal64to127 127).wf = true ∧
    (Instr.outIllegal128to255 128).wf = true ∧ (Instr.outIllegal128to255 255).wf = true ∧
    testParams.opcIn ≠ testParams.opcOut ∧ (1 : Byte).toNat < 2 ∧ 8 ≤ (8 : Byte).toNat := by decide

/-- PortInstructionFrame: a read, a write and a fault answer, with the engine running and halted. -/
theorem witness_PortInstructionFrame : (∃ t, exec .in3 testState = .next t) ∧ (∃ t, exec .out7 testState = .next t) ∧
    (∃ t, exec (.outIllegal0to1 0) testState = .next t) ∧ (Instr.outIllegal0to1 0).wf = true ∧
    (∃ t, exec .in0 { testState with cpuHalted := true } = .next t) ∧ testState.cpuHalted = false :=
  ⟨⟨_, rfl⟩, ⟨_, rfl⟩, ⟨_, rfl⟩, by decide, ⟨_, rfl⟩, rfl⟩

/-- TwoLoadsDetermineRegister: SR1, and SR2's second write of 0x56. -/
theorem witness_TwoLoadsDetermineRegister :
    (∃ t u, exec .out4 { testState with a := 0xAB } = .next t ∧ exec .out4 { t with a := 0xCD } = .next u ∧
      u.shiftData = 0xCDAB) ∧
    (∃ t u, exec .out4 { testState with shiftData := 0x1234, a := 0x56 } = .next t ∧
      exec .out4 { t with a := 0x56 } = .next u ∧ t.shiftData = 0x5612 ∧ u.shiftData = 0x5656) :=
  ⟨⟨_, _, rfl, rfl, by decide⟩, ⟨_, _, rfl, rfl, by decide, by decide⟩⟩

/-- WindowOfTwoLoads: the vector of 2.2 (`0xAB`, `0xCD`, offset 3), and the offset's last value. -/
theorem witness_WindowOfTwoLoads :
    (3 : Byte).toNat ≤ 7 ∧ (7 : Byte).toNat ≤ 7 ∧ (0 : Byte).toNat ≤ 7 ∧
    ∃ t u w r, exec .out4 { testState with a := 0xAB } = .next t ∧ exec .out4 { t with a := 0xCD } = .next u ∧
      exec .out2 { u with a := 3 } = .next w ∧ exec .in3 w = .next r ∧ r.a = 0x6D :=
  ⟨by decide, by decide, by decide, _, _, _, _, rfl, rfl, rfl, rfl, by decide⟩

theorem witness_ShiftRegisterWritesCommute :
    (∃ t u w, exec .out2 { testState with a := 3 } = .next t ∧ exec .out4 { t with a := 0xCD } = .next u ∧
      exec .in3 u = .next w) ∧
    (∃ t u w, exec .out4 { testState with a := 0xCD } = .next t ∧ exec .out2 { t with a := 3 } = .next u ∧
      exec .in3 u = .next w) ∧
    ∃ t u, exec .in3 testState = .next t ∧ exec .in3 t = .next u :=
  ⟨⟨_, _, _, rfl, rfl, rfl⟩, ⟨_, _, _, rfl, rfl, rfl⟩, ⟨_, _, rfl, rfl⟩⟩

/-- ShiftCacheFreshUntilWrite: the cache is fresh, the step leaves the register and the offset alone. -/
theorem witness_ShiftCacheFreshUntilWrite : (∃ t, exec .in3 testState = .next t) ∧
    testState.shiftOut = shiftWindow testState.shiftData testState.shiftAmount ∧
    ∃ t, step { testState with mem := [(0, 0xDB), (1, 0x03)] } = .next t ∧ t.shiftData = testState.shiftData ∧
      t.shiftAmount = testState.shiftAmount := ⟨⟨_, rfl⟩, by decide, ⟨_, rfl, rfl, rfl⟩⟩

/-- SoundsOnlyOnRise: E7 on bank 1, and the last bit of each bank. -/
theorem witness_SoundsOnlyOnRise :
    (∃ t u, exec .out3 testState = .next t ∧ exec .out3 t = .next u) ∧
    (∃ t u, exec .out5 testState = .next t ∧ exec .out5 t = .next u) ∧
    (∃ t u w, exec .out3 { testState with a := 0x08 } = .next t ∧ exec .out3 { t with a := 0x00 } = .next u ∧
      exec .out3 { u with a := 0x09 } = .next w ∧ w.trace = [.play 3, .play 0, .play 3]) ∧
    (∃ t u w, exec .out5 { testState with a := 0x10 } = .next t ∧ exec .out5 { t with a := 0x00 } = .next u ∧
      exec .out5 { u with a := 0x10 } = .next w ∧ w.trace = [.play 8, .play 8]) ∧
    testState.soundLatch1.getLsbD 3 = false ∧ testState.soundLatch2.getLsbD 4 = false ∧
    (0x08 : Byte).getLsbD 3 = true ∧ (0x00 : Byte).getLsbD 3 = false ∧ (0x09 : Byte).getLsbD 3 = true ∧
    (0x10 : Byte).getLsbD 4 = true ∧ (0x00 : Byte).getLsbD 4 = false :=
  ⟨⟨_, _, rfl, rfl⟩, ⟨_, _, rfl, rfl⟩, ⟨_, _, _, rfl, rfl, rfl, by decide⟩, ⟨_, _, _, rfl, rfl, rfl, by decide⟩,
    by decide⟩

/-- HaltedEngineRepeatsIntercept: the hazard variant of P2. -/
theorem witness_HaltedEngineRepeatsIntercept :
    ∃ t u, exec .out4 { testState with cpuHalted := true, a := 0x1F } = .next t ∧ exec .out4 t = .next u ∧
      t.shiftData = 0x1F00 := ⟨_, _, rfl, rfl, by decide⟩

/-- StepRunsDecodedInstruction, BurstCountsStepCycles: each burst one cycle below its threshold, and `pc` at the top. -/
theorem witness_StepRunsDecodedInstruction :
    testState.status = .running ∧ testState.phase = .burst1 ∧ 16665 < testParams.half ∧
    33332 < testParams.frameCycles ∧
    decode testParams [Memory.read [(0x0000, 0x01), (0xFFFF, 0xDB)] 0xFFFF,
      Memory.read [(0x0000, 0x01), (0xFFFF, 0xDB)] ((0xFFFF + 1) % 2 ^ testParams.addrBits)] = .ok (.in1, []) := by
  decide

/-- BurstCountsStepCycles: iterations one cycle below each threshold, one of them a fault, and steps that are no iteration. -/
theorem witness_BurstCountsStepCycles :
    (∃ t, step { testState with cyc := 16665 } = .next t) ∧
    (∃ t, step { testState with phase := .burst2, cyc := 33332, mem := [(0, 0xD3), (1, 0x08)] } = .next t ∧
      t.status = .faulted (.portWrite 8 0 0)) ∧
    (∃ t, step { testState with cyc := 16666 } = .next t) ∧ ¬ 16666 < testParams.half ∧
    ∃ t, step { testState with phase := .poll } = .next t :=
  ⟨⟨_, rfl⟩, ⟨_, rfl, rfl⟩, ⟨_, rfl⟩, by decide, ⟨_, rfl⟩⟩

/-- OtherOpcodePassesThrough: a NOP byte at `pc`, the engine running and halted. -/
theorem witness_OtherOpcodePassesThrough :
    testState.status = .running ∧ testState.phase = .burst1 ∧ testState.cyc < testState.params.half ∧
    Memory.read testState.mem testState.pc ≠ testState.params.opcIn ∧
    Memory.read testState.mem testState.pc ≠ testState.params.opcOut ∧ testState.cpuHalted = false := by decide

/-- OtherOpcodePassesThrough in `Burst2`, one cycle below its threshold, with the engine halted: P2's `HLT` at work. -/
theorem witness_OtherOpcodePassesThrough_halted :
    let s : State := { testState with phase := .burst2, cyc := 33332, cpuHalted := true, mem := [(0, 0x76)] }
    s.status = .running ∧ s.phase = .burst2 ∧ s.cyc < s.params.frameCycles ∧
    Memory.read s.mem s.pc ≠ s.params.opcIn ∧ Memory.read s.mem s.pc ≠ s.params.opcOut ∧ s.cpuHalted = true := by decide

/-- BurstEndsAtThreshold: at the thresholds, and FS14's budget of 0. -/
theorem witness_BurstEndsAtThreshold : testState.status = .running ∧ testParams.half ≤ 16666 ∧
    testParams.frameCycles ≤ 33333 ∧ ({ testParams with frameCycles := 0 } : Params).half ≤ 0 := by decide

/-- InterruptDelivery, DecodePublishesFrame, PollEndsFrame, ExitOnlyAtPoll: a running machine in each phase. -/
theorem witness_phases : ({ testState with phase := .deliver } : State).status = .running ∧
    ({ testState with phase := .deliver } : State).phase = .deliver ∧
    ({ testState with phase := .decode } : State).phase = .decode ∧
    ({ testState with phase := .poll } : State).phase = .poll := by decide

/-- ExitOnlyAtPoll: a step outside `Poll`; answers that exit and an answer that goes on. -/
theorem witness_ExitOnlyAtPoll : (∃ t, step testState = .next t) ∧ testState.phase ≠ .poll ∧
    ((fun k => k == 99 : Key → Bool) testState.params.exitKey = true) ∧
    ((fun _ => false : Key → Bool) testState.params.exitKey = false) := ⟨⟨_, rfl⟩, by decide, by decide, by decide⟩

theorem witness_TerminalStatusStops : ({ testState with status := .exited 0 } : State).status = .exited 0 ∧
    ({ testState with status := .faulted (.portRead 4 0) } : State).status = .faulted (.portRead 4 0) ∧
    testState.status = .running := by decide

/-- FaultIsPreciseAndTerminal: P3's IN 7. -/
theorem witness_FaultIsPreciseAndTerminal :
    ∃ t, step { testState with pc := 0x0009, mem := [(0x0009, 0xDB), (0x000A, 0x07)] } = .next t ∧
      t.status = .faulted (.portRead 7 0x0009) := ⟨_, rfl, rfl⟩

/-- BlockNeverWritesMemory: an intercepted instruction, a halted engine at another opcode, a burst's end, a decode, a poll. -/
theorem witness_BlockNeverWritesMemory : (∃ t, exec .out6 testState = .next t) ∧
    (∃ t, step { testState with mem := [(0, 0xD3), (1, 0x06)] } = .next t) ∧
    ({ testState with mem := [(0, 0xD3), (1, 0x06)] } : State).fetch = .ok .out6 ∧
    (∃ t, step { testState with cpuHalted := true } = .next t) ∧
    (∃ t, step { testState with cyc := 20000 } = .next t ∧ t.phase ≠ .burst1) ∧
    (∃ t, step { testState with phase := .decode } = .next t) ∧ (∃ t, step { testState with phase := .poll } = .next t) :=
  ⟨⟨_, rfl⟩, ⟨_, rfl⟩, by decide, ⟨_, rfl⟩, ⟨_, rfl, by decide⟩, ⟨_, rfl⟩, ⟨_, rfl⟩⟩

/-- SoundOnlyFromSoundPorts: OUT 3 and OUT 5 with the last bit of each bank. -/
theorem witness_SoundOnlyFromSoundPorts :
    (∃ t, step { testState with a := 0x08, mem := [(0, 0xD3), (1, 0x03)] } = .next t ∧
      t.trace.count (.play 3) ≠ testState.trace.count (.play 3)) ∧
    (∃ t, step { testState with a := 0x10, mem := [(0, 0xD3), (1, 0x05)] } = .next t ∧
      t.trace.count (.play 8) ≠ testState.trace.count (.play 8)) := ⟨⟨_, rfl, by decide⟩, ⟨_, rfl, by decide⟩⟩

/-- A machine between its second frame's delivery and decode, its window offset and switches off their power-up values. -/
def midRun : State :=
  { testState with
    phase := .burst2, cyc := 20000, cursor := .first, shiftAmount := 7, switch1 := 0x11, pc := 0xFFFF, a := 0x0F,
    mem := [(0x0000, 0x03), (0xFFFF, 0xD3)],
    trace := [.inject 0x0008, .publish [], .play 8, .inject 0x0010] }

/-- StepKeepsLegalState: the state in the middle of a run, and the step it takes. -/
theorem witness_StepKeepsLegalState : midRun.Inv ∧ ∃ t, step midRun = .next t :=
  ⟨⟨witness_params_wf, by decide, by decide, by decide, by decide, rfl, List.length_replicate⟩, ⟨_, rfl⟩⟩

theorem witness_StepKeepsSchedule : midRun.ScheduleInv ∧ ∃ t, step midRun = .next t :=
  ⟨by unfold State.ScheduleInv; decide, ⟨_, rfl⟩⟩

theorem witness_InterruptVectorsAlternate :
    midRun.AlternationInv ∧ (∃ t, step midRun = .next t) ∧
    ({ testState with phase := .deliver } : State).AlternationInv ∧
    ∃ t, step { testState with phase := .deliver } = .next t :=
  ⟨by unfold State.AlternationInv; decide, ⟨_, rfl⟩, by unfold State.AlternationInv; decide, ⟨_, rfl⟩⟩

theorem witness_OnePublishPerInterrupt : midRun.FrameCountInv ∧ ∃ t, step midRun = .next t :=
  ⟨by unfold State.FrameCountInv; decide, ⟨_, rfl⟩⟩

theorem witness_TerminalEventEndsTrace : midRun.EndInv ∧ ∃ t, step midRun = .next t :=
  ⟨by show ∀ e ∈ midRun.trace, e.terminal = false; decide, ⟨_, rfl⟩⟩

theorem witness_OnlySamplesZeroToEight : midRun.PlayInv ∧ ∃ t, step midRun = .next t :=
  ⟨by intro n hn; simp [midRun] at hn; omega, ⟨_, rfl⟩⟩

/-- UnboundSwitchBitsKept: bits 0 and 4 of switch1, which the bindings name, are off their power-up value. -/
theorem witness_UnboundSwitchBitsKept : midRun.UnboundInv ∧ (∃ t, step midRun = .next t) ∧
    ∃ t, step { midRun with phase := .poll } = .next t := ⟨by unfold State.UnboundInv; decide, ⟨_, rfl⟩, ⟨_, rfl⟩⟩

/-- PixelMapIsBijection, DecodedPixel: the first and the last bit of the window, the first and the last pixel. -/
theorem witness_DecodedPixel : 0 < testParams.outW * 32 ∧ 7167 < testParams.outW * 32 ∧ 0 < 8 ∧ 7 < 8 ∧
    223 < testParams.outW ∧ 255 < 256 := by decide

theorem witness_DecodeLoopEqualsFrame : (List.replicate (testParams.outW * 256) Colour.red).length = testParams.outW * 256 :=
  List.length_replicate

/-- ReferenceColourZones: the corners of the frame. -/
theorem witness_ReferenceColourZones : 0 < 224 ∧ 223 < 224 ∧ 0 < 256 ∧ 255 < 256 := by decide

/-- AllZeroWindowIsBlack: a memory that lists nothing, and one that lists a byte below the window. -/
theorem witness_AllZeroWindowIsBlack :
    (∀ i < testParams.vramSize, Memory.read [] (testParams.vramBase + i) = 0) ∧
    (∀ i < testParams.vramSize, Memory.read [(0x23FF, 5)] (testParams.vramBase + i) = 0) :=
  ⟨fun _ _ => rfl, fun i _ => by
    have : ¬ testParams.vramBase + i = 0x23FF := by
      show ¬ 0x2400 + i = 0x23FF
      omega
    simp [Memory.read, this, unlisted]⟩

/-- FrameShowsWindowOnly: two machines that differ in A and in a byte below the window. -/
theorem witness_FrameShowsWindowOnly :
    (∃ t, step { testState with phase := .decode, a := 1 } = .next t) ∧
    (∃ t, step { testState with phase := .decode, mem := [(0x23FF, 5)] } = .next t) ∧
    (∀ i < testParams.vramSize,
      Memory.read [] (testParams.vramBase + i) = Memory.read [(0x23FF, 5)] (testParams.vramBase + i)) :=
  ⟨⟨_, rfl⟩, ⟨_, rfl⟩, fun i hi => (witness_AllZeroWindowIsBlack.2 i hi).symm⟩

/-- A machine at an opcode of class `Other` with a byte listed, legal as `State.Inv` has it. -/
def atOther : State := { testState with mem := [(0x0000, 0x76), (0x2400, 0x01)] }

/-- EngineWritesAreReadBack: a store in canonical form and two writes of one byte, of which the last is read; a legal
machine at a `HLT` byte in each burst, and one at its delivery. -/
theorem witness_EngineWritesAreReadBack :
    Memory.wf [(1, 5), (9, 6)] ∧ Memory.read (Memory.writeAll [(1, 5), (9, 6)] 65536 [(65537, 7), (1, 8), (2, 3)]) 1 = 8 ∧
    atOther.Inv ∧ atOther.status = .running ∧ atOther.cpuHalted = false ∧ atOther.phase = .burst1 ∧
    atOther.cyc < atOther.params.half ∧ 33332 < atOther.params.frameCycles ∧
    Memory.read atOther.mem atOther.pc ≠ atOther.params.opcIn ∧
    Memory.read atOther.mem atOther.pc ≠ atOther.params.opcOut ∧
    ({ atOther with phase := .deliver } : State).Inv ∧ ({ atOther with phase := .burst2, cyc := 33332 } : State).Inv :=
  ⟨by decide, by decide, ⟨witness_params_wf, by decide, by decide, by decide, by decide, rfl, List.length_replicate⟩,
    by decide, by decide, by decide, by decide, by decide, by decide, by decide,
    ⟨witness_params_wf, by decide, by decide, by decide, by decide, rfl, List.length_replicate⟩,
    ⟨witness_params_wf, by decide, by decide, by decide, by decide, rfl, List.length_replicate⟩⟩

/-- BlockReadsAddressSpaceOnly: two stores that differ in a byte above the address space, and a `pc` at its top. -/
theorem witness_BlockReadsAddressSpaceOnly : testParams.wf ∧
    (∀ k < 2 ^ testParams.addrBits, Memory.read [] k = Memory.read [(65536, 5)] k) ∧
    ({ testState with pc := 0xFFFF } : State).params = testParams ∧ 0xFFFF < 2 ^ testParams.addrBits :=
  ⟨witness_params_wf, fun k hk => by
    have h : k < 65536 := hk
    have : ¬ k = 65536 := by omega
    simp [Memory.read, this], rfl, by decide⟩

/-- ColourByPlace: both ends of each zone's native columns (rows 255, 240, 239, 192, 191, 51, 32, 31 and 0), lit, with
the edge's columns inside and outside. -/
theorem witness_ColourByPlace : testParams.wf ∧ 0 < testParams.outW ∧ 16 < testParams.outW ∧ 223 < testParams.outW ∧
    255 < 256 ∧ colour testParams 16 240 true = .green ∧ colour testParams 0 240 true = .white ∧
    colour testParams 0 239 true = .green ∧ colour testParams 0 192 true = .green ∧ colour testParams 0 191 true = .white ∧
    colour testParams 223 51 true = .red ∧ colour testParams 223 32 true = .red ∧
    colour testParams 223 31 true = .white ∧ colour testParams 223 0 false = .black :=
  ⟨witness_params_wf, by decide⟩

end Sys2Proof.Machine
end

section
/-! The legal states (`State.Inv`): one rule for what any update may do to them, then the operations that read and write the
ports, run the CPU engine and move the frame on, up to one step. -/

namespace Sys2Proof.Machine

/-- An address of P_ADDR_BITS bits is below `2 ^ P_ADDR_BITS` (00_scope.md R15; log entry 17). -/
theorem addrWrap_lt (p : Params) (n : Nat) : addrWrap p n < 2 ^ p.addrBits := Nat.mod_lt _ (Nat.two_pow_pos _)

/-- The offset that OUT 2 stores has its bits 7:3 clear (10_state.md R33). -/
theorem and_seven_toNat_le (v : Byte) : (v &&& 0x7).toNat ≤ 7 := by
  rw [BitVec.toNat_and]
  exact Nat.and_le_right

/-- The decoded frame has W×H pixels (10_state.md R41). -/
@[simp] theorem length_decodeFrame (p : Params) (m : Memory) : (decodeFrame p m).length = p.outW * outH := by
  simp [decodeFrame]

/-- The store of a legal machine has room for at least one byte. -/
theorem memSize_pos_of_wf {p : Params} (h : p.wf) : 0 < p.memSize := Nat.lt_of_lt_of_le (by decide) h.mem_size

section
variable {s t : State} (h : s.Inv)
include h

/-- A call of the CPU engine keeps a legal state legal: it may set `pc` to an address of P_ADDR_BITS bits and write memory
inside its size, and nothing else that `State.Inv` speaks of. -/
theorem State.Inv.of_cpuCall (hparams : t.params = s.params)
    (hpc : (∃ n, t.pc = addrWrap s.params n) ∨ t.pc = s.pc)
    (hmem : ∃ ws, t.mem = Memory.writeAll s.mem s.params.memSize ws)
    (hoffset : t.shiftAmount = s.shiftAmount) (hswitch : t.switch0 = s.switch0)
    (hframe : t.framebuffer = s.framebuffer) : t.Inv := by
  obtain ⟨ws, hmem⟩ := hmem
  constructor
  case params_ok => rw [hparams]; exact h.params_ok
  case mem_canonical => rw [hmem]; exact Memory.writeAll_wf h.mem_canonical _ _
  case mem_inside =>
    rw [hmem, hparams]
    exact Memory.writeAll_inside (memSize_pos_of_wf h.params_ok) h.mem_inside ws
  case pc_inside =>
    rw [hparams]
    rcases hpc with ⟨n, hpc⟩ | hpc <;> rw [hpc]
    · exact addrWrap_lt _ n
    · exact h.pc_inside
  case offset_small => rw [hoffset]; exact h.offset_small
  case switch0_fixed => rw [hswitch, hparams]; exact h.switch0_fixed
  case frame_size => rw [hframe, hparams]; exact h.frame_size

/-- An update that keeps every field `State.Inv` speaks of keeps a legal state legal. -/
theorem State.Inv.of_kept (hparams : t.params = s.params) (hpc : t.pc = s.pc) (hmem : t.mem = s.mem)
    (hoffset : t.shiftAmount = s.shiftAmount) (hswitch : t.switch0 = s.switch0)
    (hframe : t.framebuffer = s.framebuffer) : t.Inv :=
  h.of_cpuCall hparams (.inr hpc) ⟨[], hmem⟩ hoffset hswitch hframe

/-! The CPU engine's calls (R123, R244, R228) -/

theorem State.Inv.stepPort : s.stepPort.Inv :=
  h.of_cpuCall (by simp) ((stepPort_pc_cyc s).1.imp_left fun hpc => ⟨_, hpc⟩) ⟨[], by simp⟩ (by simp) (by simp) (by simp)

theorem State.Inv.stepOther : s.stepOther.Inv := by
  obtain ⟨hpc, -, hmem⟩ := stepOther_pc_cyc_mem s
  exact h.of_cpuCall (by simp) hpc hmem (by simp) (by simp) (by simp)

theorem State.Inv.deliver : s.deliver.Inv := h.of_cpuCall rfl (.inl ⟨_, rfl⟩) ⟨_, rfl⟩ rfl rfl rfl

/-! The ports (41_port_bank.md R121, R122) -/

theorem State.Inv.setA (v : Byte) : (s.setA v).Inv := h.of_kept rfl rfl rfl rfl rfl rfl

theorem State.Inv.raiseFatal (info : FatalInfo) : (s.raiseFatal info).Inv := h.of_kept rfl rfl rfl rfl rfl rfl

theorem State.Inv.trigger (b : Bank) (v : Byte) : (s.trigger b v).Inv :=
  h.of_kept (by simp) (by simp) (by simp) (by simp) (by simp) (by simp)

/-- OUT 2 is the one instruction that writes a field `State.Inv` speaks of. -/
theorem State.Inv.setOffset (v : Byte) : ({ s with shiftAmount := v &&& 0x7 } : State).Inv :=
  { h with offset_small := and_seven_toNat_le v }

theorem State.Inv.of_portRead {port v : Byte} (hr : s.portRead port = some (v, t)) : t.Inv := by
  rcases portRead_cases hr with ⟨-, -, rfl⟩ | ⟨-, -, rfl⟩ | ⟨-, -, rfl⟩ | ⟨-, -, rfl⟩
  · exact h
  · exact h
  · exact h
  · exact h.of_kept rfl rfl rfl rfl rfl rfl

theorem State.Inv.of_portWrite {port v : Byte} (hw : s.portWrite port v = some t) : t.Inv := by
  rcases portWrite_cases hw with ⟨-, rfl⟩ | ⟨-, rfl⟩ | ⟨-, rfl⟩ | ⟨-, rfl⟩ | ⟨-, rfl⟩ | ⟨-, rfl⟩
  · exact h.setOffset v
  · exact h.trigger .bank1 v
  · exact h.of_kept rfl rfl rfl rfl rfl rfl
  · exact h.trigger .bank2 v
  · exact h.of_kept rfl rfl rfl rfl rfl rfl
  · exact h

theorem State.Inv.of_exec {i : Instr} (he : exec i s = .next t) : t.Inv := by
  rcases exec_cases he with ⟨v, u, hr, rfl⟩ | ⟨u, hw, rfl⟩ | ⟨info, rfl⟩
  · exact ((h.of_portRead hr).setA v).stepPort
  · exact (h.of_portWrite hw).stepPort
  · exact h.raiseFatal info

/-! The frame (40_frame_scheduler.md R101) -/

theorem State.Inv.of_burstIteration (hb : s.burstIteration exec = .next t) : t.Inv := by
  rcases burstIteration_cases hb with ⟨i, -, he⟩ | ⟨-, rfl⟩
  · exact h.of_exec he
  · exact h.stepOther

/-- The decode replaces the framebuffer by one of the same size. -/
theorem State.Inv.decodeAndPublish : s.decodeAndPublish.Inv := { h with frame_size := length_decodeFrame _ _ }

theorem State.Inv.poll : s.poll.Inv := by
  rcases poll_cases s with ⟨-, hp⟩ | ⟨-, hp⟩ <;> rw [hp]
  · exact h.of_kept rfl rfl rfl rfl rfl rfl
  · exact h.of_kept rfl rfl rfl rfl rfl rfl

theorem State.Inv.of_step (hs : step s = .next t) : t.Inv := by
  obtain ⟨-, hcases⟩ := step_cases hs
  rcases hcases with ⟨-, -, rfl⟩ | ⟨-, -, hb⟩ | ⟨-, rfl⟩ | ⟨-, -, rfl⟩ | ⟨-, -, hb⟩ | ⟨-, rfl⟩ | ⟨-, rfl⟩
  · exact h.of_kept rfl rfl rfl rfl rfl rfl
  · exact h.of_burstIteration hb
  · exact h.deliver
  · exact h.of_kept rfl rfl rfl rfl rfl rfl
  · exact h.of_burstIteration hb
  · exact h.decodeAndPublish
  · exact h.poll

end

/-- Settles O41: `State.Inv` is inductive, by the transitions of R101's table. -/
theorem stepKeepsLegalState : Obligations.StepKeepsLegalState := fun _ _ h hs => h.of_step hs

end Sys2Proof.Machine
end

section
/-! The frame of one IN or OUT, and one step in the form its consequences for single fields are read off from. -/

namespace Sys2Proof.Machine

/-- `t` holds what no IN or OUT touches as `s` does (41_port_bank.md R120 to R123, 60_exceptions.md R220). -/
structure State.PortFrame (s t : State) : Prop where
  switch0     : t.switch0 = s.switch0
  switch1     : t.switch1 = s.switch1
  switch2     : t.switch2 = s.switch2
  cursor      : t.cursor = s.cursor
  framebuffer : t.framebuffer = s.framebuffer
  phase       : t.phase = s.phase
  mem         : t.mem = s.mem
  params      : t.params = s.params

section
variable {s t u : State}

theorem State.PortFrame.trans (h : s.PortFrame t) (h' : t.PortFrame u) : s.PortFrame u where
  switch0 := h'.switch0.trans h.switch0
  switch1 := h'.switch1.trans h.switch1
  switch2 := h'.switch2.trans h.switch2
  cursor := h'.cursor.trans h.cursor
  framebuffer := h'.framebuffer.trans h.framebuffer
  phase := h'.phase.trans h.phase
  mem := h'.mem.trans h.mem
  params := h'.params.trans h.params

theorem portFrame_stepPort (s : State) : s.PortFrame s.stepPort := by constructor <;> simp

theorem portFrame_setA (s : State) (v : Byte) : s.PortFrame (s.setA v) := by constructor <;> rfl

theorem portFrame_trigger (s : State) (b : Bank) (v : Byte) : s.PortFrame (s.trigger b v) := by constructor <;> simp

theorem portFrame_raiseFatal (s : State) (info : FatalInfo) : s.PortFrame (s.raiseFatal info) := by constructor <;> rfl

theorem portFrame_of_portRead {port v : Byte} (hr : s.portRead port = some (v, t)) : s.PortFrame t := by
  rcases portRead_cases hr with ⟨-, -, rfl⟩ | ⟨-, -, rfl⟩ | ⟨-, -, rfl⟩ | ⟨-, -, rfl⟩ <;> constructor <;> rfl

theorem portFrame_of_portWrite {port v : Byte} (hw : s.portWrite port v = some t) : s.PortFrame t := by
  rcases portWrite_cases hw with ⟨-, rfl⟩ | ⟨-, rfl⟩ | ⟨-, rfl⟩ | ⟨-, rfl⟩ | ⟨-, rfl⟩ | ⟨-, rfl⟩
  · constructor <;> rfl
  · exact portFrame_trigger s .bank1 v
  · constructor <;> rfl
  · exact portFrame_trigger s .bank2 v
  · constructor <;> rfl
  · constructor <;> rfl

/-- Every IN and every OUT keeps that frame, a faulting one too. -/
theorem portFrame_of_exec {i : Instr} (he : exec i s = .next t) : s.PortFrame t := by
  rcases exec_cases he with ⟨v, u, hr, rfl⟩ | ⟨u, hw, rfl⟩ | ⟨info, rfl⟩
  · exact ((portFrame_of_portRead hr).trans (portFrame_setA u v)).trans (portFrame_stepPort _)
  · exact (portFrame_of_portWrite hw).trans (portFrame_stepPort u)
  · exact portFrame_raiseFatal s info

/-- What one step can be, its guard left out: a burst's end, an instruction, the CPU's own opcode, the delivery, the decode
or the poll (40_frame_scheduler.md R101). -/
theorem step_forms (hs : step s = .next t) :
    (∃ ph, t = { s with phase := ph }) ∨ (∃ i, exec i s = .next t) ∨ t = s.stepOther ∨ t = s.deliver ∨
    t = s.decodeAndPublish ∨ t = s.poll := by
  have burst (hb : s.burstIteration exec = .next t) : (∃ i, exec i s = .next t) ∨ t = s.stepOther :=
    (burstIteration_cases hb).imp (fun ⟨i, _, he⟩ => ⟨i, he⟩) And.right
  obtain ⟨-, hcases⟩ := step_cases hs
  rcases hcases with ⟨-, -, h⟩ | ⟨-, -, hb⟩ | ⟨-, h⟩ | ⟨-, -, h⟩ | ⟨-, -, hb⟩ | ⟨-, h⟩ | ⟨-, h⟩
  · exact .inl ⟨_, h⟩
  · exact .inr ((burst hb).imp_right .inl)
  · exact .inr (.inr (.inr (.inl h)))
  · exact .inl ⟨_, h⟩
  · exact .inr ((burst hb).imp_right .inl)
  · exact .inr (.inr (.inr (.inr (.inl h))))
  · exact .inr (.inr (.inr (.inr (.inr h))))

end

/-! What a poll leaves as it was (R107, 45_input_mapper.md R204). -/

@[simp] theorem State.poll_params (s : State) : s.poll.params = s.params := by
  rcases poll_cases s with ⟨-, hp⟩ | ⟨-, hp⟩ <;> rw [hp] <;> rfl

@[simp] theorem State.poll_mem (s : State) : s.poll.mem = s.mem := by
  rcases poll_cases s with ⟨-, hp⟩ | ⟨-, hp⟩ <;> rw [hp] <;> rfl

@[simp] theorem State.poll_shiftOut (s : State) : s.poll.shiftOut = s.shiftOut := by
  rcases poll_cases s with ⟨-, hp⟩ | ⟨-, hp⟩ <;> rw [hp] <;> rfl

/-- A step changes no parameter (10_state.md R46). -/
theorem step_params {s t : State} (hs : step s = .next t) : t.params = s.params := by
  rcases step_forms hs with ⟨ph, rfl⟩ | ⟨i, he⟩ | rfl | rfl | rfl | rfl
  · rfl
  · exact (portFrame_of_exec he).params
  · simp
  · simp
  · simp
  · simp

/-- Settles O39: each of R101's transitions keeps `params`. -/
theorem parametersNeverChange : Obligations.ParametersNeverChange := fun _ _ => step_params

end Sys2Proof.Machine
end

section
/-! The event trace (10_state.md R45): what one step appends to it. -/

namespace Sys2Proof.Machine

/-- The lists of events that one step from `s` may append to the trace (00_scope.md R8). -/
inductive State.StepEvents (s : State) : List Event → Prop
  | silent : s.StepEvents []
  | plays (b : Bank) : s.StepEvents (bankPlays b (risingBits b (s.latch b) s.a))
  | fatal (info : FatalInfo) : s.StepEvents [.fatal info.code info]
  | inject : s.StepEvents [.inject s.vector]
  | publish : s.StepEvents [.publish ((decodeFrame s.params s.mem).map (packColour s.params))]
  | exit : s.StepEvents [.exit 0]

section
variable {s t : State}

theorem portRead_trace {port v : Byte} (hr : s.portRead port = some (v, t)) : t.trace = s.trace := by
  rcases portRead_cases hr with ⟨-, -, rfl⟩ | ⟨-, -, rfl⟩ | ⟨-, -, rfl⟩ | ⟨-, -, rfl⟩ <;> rfl

/-- A port write emits nothing, or what `Trigger` emits for one of the banks (41_port_bank.md R122). -/
theorem portWrite_trace {port v : Byte} (hw : s.portWrite port v = some t) :
    t.trace = s.trace ∨ ∃ b, t.trace = s.trace ++ bankPlays b (risingBits b (s.latch b) v) := by
  rcases portWrite_cases hw with ⟨-, rfl⟩ | ⟨-, rfl⟩ | ⟨-, rfl⟩ | ⟨-, rfl⟩ | ⟨-, rfl⟩ | ⟨-, rfl⟩
  · exact .inl rfl
  · exact .inr ⟨_, trigger_trace s .bank1 v⟩
  · exact .inl rfl
  · exact .inr ⟨_, trigger_trace s .bank2 v⟩
  · exact .inl rfl
  · exact .inl rfl

theorem stepEvents_of_trace_eq (h : t.trace = s.trace) : ∃ new, t.trace = s.trace ++ new ∧ s.StepEvents new :=
  ⟨[], by simp [h], .silent⟩

theorem exec_trace {i : Instr} (he : exec i s = .next t) : ∃ new, t.trace = s.trace ++ new ∧ s.StepEvents new := by
  rcases exec_cases he with ⟨v, u, hr, rfl⟩ | ⟨u, hw, rfl⟩ | ⟨info, rfl⟩
  · exact stepEvents_of_trace_eq (by simp [portRead_trace hr])
  · rcases portWrite_trace hw with h | ⟨b, h⟩
    · exact stepEvents_of_trace_eq (by simp [h])
    · exact ⟨_, by rw [State.stepPort_trace, h], .plays b⟩
  · exact ⟨_, rfl, .fatal info⟩

theorem poll_trace (s : State) : s.poll.trace = s.trace ++ [.exit 0] ∨ s.poll.trace = s.trace := by
  rcases poll_cases s with ⟨-, hp⟩ | ⟨-, hp⟩ <;> rw [hp]
  · exact .inl rfl
  · exact .inr rfl

/-- A step appends to the trace, and only what `State.StepEvents` lists. -/
theorem step_trace (hs : step s = .next t) : ∃ new, t.trace = s.trace ++ new ∧ s.StepEvents new := by
  rcases step_forms hs with ⟨ph, rfl⟩ | ⟨i, he⟩ | rfl | rfl | rfl | rfl
  · exact stepEvents_of_trace_eq rfl
  · exact exec_trace he
  · exact stepEvents_of_trace_eq (by simp)
  · exact ⟨_, rfl, .inject⟩
  · exact ⟨_, rfl, .publish⟩
  · rcases poll_trace s with h | h
    · exact ⟨_, h, .exit⟩
    · exact stepEvents_of_trace_eq h

end

/-- The samples of a bank's mapped bits are among 0..8 (43_audio_trigger.md R160, R166). -/
theorem Bank.sample_le {b : Bank} : ∀ k < 8, b.mask.getLsbD k = true → b.base + k ≤ 8 := by
  cases b <;> decide

/-- No step requests a sample above 8. -/
theorem State.StepEvents.play_le {s : State} {new : List Event} (h : s.StepEvents new) {n : Nat}
    (hn : Event.play n ∈ new) : n ≤ 8 := by
  cases h with
  | plays b =>
    obtain ⟨k, hk, he, hmask⟩ := bankPlays_samples hn
    obtain rfl := Event.play.inj he
    exact Bank.sample_le k hk hmask
  | silent => simp at hn
  | fatal info => simp at hn
  | inject => simp at hn
  | publish => simp at hn
  | exit => simp at hn

/-- Settles O46: a new `Play` comes from a bank's mapped bit, and those are nine. -/
theorem onlySamplesZeroToEight : Obligations.OnlySamplesZeroToEight := by
  intro s t hinv hs n hn
  obtain ⟨new, htrace, hnew⟩ := step_trace hs
  rw [htrace, List.mem_append] at hn
  exact hn.elim (hinv n) hnew.play_le

/-- Settles O38: what a step appends comes after all that was there. -/
theorem traceOnlyGrows : Obligations.TraceOnlyGrows := by
  intro s t hs
  obtain ⟨new, htrace, -⟩ := step_trace hs
  exact ⟨new, htrace.symm⟩

end Sys2Proof.Machine
end

section
/-! The switch bytes (10_state.md R32): only the poll writes them, and there only the bits that a binding names. -/

namespace Sys2Proof.Machine

/-- The byte of `(switch1, switch2)` that a binding to `port` drives (00_scope.md R13). -/
def switchByte (port : SwitchPort) (sw : Byte × Byte) : Byte :=
  match port with
  | .port1 => sw.1
  | .port2 => sw.2

/-- The masks of `driveBit`: bit `b` alone, and every other bit of the byte. -/
theorem getLsbD_driveBit_masks : ∀ b k : Fin 8,
    (BitVec.ofNat 8 (1 <<< b.val)).getLsbD k.val = decide (k = b) ∧
    ((0xFF : Byte) ^^^ BitVec.ofNat 8 (1 <<< b.val)).getLsbD k.val = !decide (k = b) := by decide

/-- `driveBit` sets its own bit to the key's state and keeps the others (45_input_mapper.md R201, R202). -/
theorem getLsbD_driveBit (v : Byte) (b k : Fin 8) (held : Bool) :
    (driveBit v b.val held).getLsbD k.val = if k = b then held else v.getLsbD k.val := by
  obtain ⟨hset, hclear⟩ := getLsbD_driveBit_masks b k
  cases held
  · show (v &&& ((0xFF : Byte) ^^^ BitVec.ofNat 8 (1 <<< b.val))).getLsbD k.val = _
    rw [BitVec.getLsbD_and, hclear]
    by_cases h : k = b <;> simp [h]
  · show (v ||| BitVec.ofNat 8 (1 <<< b.val)).getLsbD k.val = _
    rw [BitVec.getLsbD_or, hset]
    by_cases h : k = b <;> simp [h]

/-- One binding drives its bit in the byte of its port. -/
theorem switchByte_applyBinding (held : Key → Bool) (sw : Byte × Byte) (e : Binding) (port : SwitchPort) :
    switchByte port (applyBinding held sw e) =
      if e.port = port then driveBit (switchByte port sw) e.bit.val (held e.key) else switchByte port sw := by
  obtain ⟨key, eport, bit⟩ := e
  cases eport <;> cases port <;> rfl

/-- A binding to another bit keeps a bit. -/
theorem getLsbD_applyBinding_of_ne {port : SwitchPort} {b : Fin 8} {e : Binding} (h : ¬ (e.port = port ∧ e.bit = b))
    (held : Key → Bool) (sw : Byte × Byte) :
    (switchByte port (applyBinding held sw e)).getLsbD b.val = (switchByte port sw).getLsbD b.val := by
  rw [switchByte_applyBinding]
  split
  · rename_i hport
    rw [getLsbD_driveBit, if_neg fun hb => h ⟨hport, hb.symm⟩]
  · rfl

/-- A poll keeps a bit that its list does not name (R204). -/
theorem getLsbD_applyBindings_of_unbound {port : SwitchPort} {b : Fin 8} {bindings : List Binding}
    (h : ∀ e ∈ bindings, ¬ (e.port = port ∧ e.bit = b)) (held : Key → Bool) (sw : Byte × Byte) :
    (switchByte port (applyBindings held bindings sw)).getLsbD b.val = (switchByte port sw).getLsbD b.val := by
  unfold applyBindings
  induction bindings generalizing sw with
  | nil => rfl
  | cons e rest ih =>
    rw [List.forall_mem_cons] at h
    exact (ih h.2 _).trans (getLsbD_applyBinding_of_ne h.1 held sw)

/-- What a poll does to the two bytes, whether or not the run exits there (R107). -/
theorem poll_switches (s : State) :
    (s.poll.switch1, s.poll.switch2) =
      applyBindings (Config.keyDown s.draws) s.params.bindings (s.switch1, s.switch2) := by
  rcases poll_cases s with ⟨-, hp⟩ | ⟨-, hp⟩ <;> rw [hp] <;> rfl

/-- A step keeps the two bytes, or applies the bindings to them. -/
theorem step_switches {s t : State} (hs : step s = .next t) :
    (t.switch1, t.switch2) = (s.switch1, s.switch2) ∨
    ∃ held, (t.switch1, t.switch2) = applyBindings held s.params.bindings (s.switch1, s.switch2) := by
  rcases step_forms hs with ⟨ph, rfl⟩ | ⟨i, he⟩ | rfl | rfl | rfl | rfl
  · exact .inl rfl
  · exact .inl (Prod.ext (portFrame_of_exec he).switch1 (portFrame_of_exec he).switch2)
  · exact .inl (by simp)
  · exact .inl rfl
  · exact .inl rfl
  · exact .inr ⟨_, poll_switches s⟩

/-- A step keeps a switch bit that no binding names. -/
theorem step_keeps_unbound_bit {s t : State} (hs : step s = .next t) {port : SwitchPort} {b : Fin 8}
    (h : ∀ e ∈ s.params.bindings, ¬ (e.port = port ∧ e.bit = b)) :
    (switchByte port (t.switch1, t.switch2)).getLsbD b.val = (switchByte port (s.switch1, s.switch2)).getLsbD b.val := by
  rcases step_switches hs with hsw | ⟨held, hsw⟩ <;> rw [hsw]
  exact getLsbD_applyBindings_of_unbound h held _

/-- Settles O47: by what a step does to the two switch bytes. -/
theorem unboundSwitchBitsKept : Obligations.UnboundSwitchBitsKept := by
  intro s t hinv hs b
  rw [step_params hs]
  obtain ⟨h1, h2⟩ := hinv b
  exact ⟨fun h => (step_keeps_unbound_bit (port := .port1) hs h).trans (h1 h),
    fun h => (step_keeps_unbound_bit (port := .port2) hs h).trans (h2 h)⟩

end Sys2Proof.Machine
end

section
/-! The window cache (10_state.md R35, R51): a step keeps it or refreshes it from the window. -/

namespace Sys2Proof.Machine

theorem portRead_shiftOut {s t : State} {port v : Byte} (hr : s.portRead port = some (v, t)) :
    t.shiftOut = s.shiftOut ∨ t.shiftOut = shiftWindow s.shiftData s.shiftAmount := by
  rcases portRead_cases hr with ⟨-, -, rfl⟩ | ⟨-, -, rfl⟩ | ⟨-, -, rfl⟩ | ⟨-, -, rfl⟩
  · exact .inl rfl
  · exact .inl rfl
  · exact .inl rfl
  · exact .inr rfl

theorem portWrite_shiftOut {s t : State} {port v : Byte} (hw : s.portWrite port v = some t) :
    t.shiftOut = s.shiftOut := by
  rcases portWrite_cases hw with ⟨-, rfl⟩ | ⟨-, rfl⟩ | ⟨-, rfl⟩ | ⟨-, rfl⟩ | ⟨-, rfl⟩ | ⟨-, rfl⟩ <;> simp

theorem exec_shiftOut {i : Instr} {s t : State} (he : exec i s = .next t) :
    t.shiftOut = s.shiftOut ∨ t.shiftOut = shiftWindow s.shiftData s.shiftAmount := by
  rcases exec_cases he with ⟨v, u, hr, rfl⟩ | ⟨u, hw, rfl⟩ | ⟨info, rfl⟩
  · simpa using portRead_shiftOut hr
  · exact .inl (by simp [portWrite_shiftOut hw])
  · exact .inl rfl

theorem step_shiftOut {s t : State} (hs : step s = .next t) :
    t.shiftOut = s.shiftOut ∨ t.shiftOut = shiftWindow s.shiftData s.shiftAmount := by
  rcases step_forms hs with ⟨ph, rfl⟩ | ⟨i, he⟩ | rfl | rfl | rfl | rfl
  · exact .inl rfl
  · exact exec_shiftOut he
  · exact .inl (by simp)
  · exact .inl rfl
  · exact .inl rfl
  · exact .inl (by simp)

/-- IN 3 as one read of the window and the CPU's step (42_shift_register.md R141). -/
theorem exec_in3 (s : State) :
    exec .in3 s = .next (s.shiftRead.setA (shiftWindow s.shiftData s.shiftAmount)).stepPort := rfl

/-- Settles O22: IN 3 refreshes the cache, and a step that does not refresh it keeps it. -/
theorem shiftCacheFreshUntilWrite : Obligations.ShiftCacheFreshUntilWrite := by
  refine ⟨fun s t he => ?_, fun s t hs hfresh hdata hamount => ?_⟩
  · obtain rfl := Host.Outcome.next.inj ((exec_in3 s).symm.trans he)
    simp
  · rw [hdata, hamount]
    exact (step_shiftOut hs).elim (·.trans hfresh) id

end Sys2Proof.Machine
end

section
/-! The memory store is the CPU engine's to write (10_state.md R48). -/

namespace Sys2Proof.Machine

/-- The CPU's step at an opcode of class `Other`, where the engine runs (R244). -/
theorem stepOther_of_running {s : State} (h : s.cpuHalted = false) :
    s.stepOther = s.engineExecuted (Config.cpuStep s.draws s.cpuView) := by
  rw [State.stepOther, if_neg (by simp [h])]

/-- The CPU's step at an opcode of class `Other`, where the engine is halted (R259). -/
theorem stepOther_of_halted {s : State} (h : s.cpuHalted = true) :
    s.stepOther = s.haltedStep (Config.cpuStep s.draws s.cpuView) := by
  rw [State.stepOther, if_pos h]

/-- A burst iteration writes memory only where a running engine executes an opcode of class `Other`. -/
theorem burstIteration_mem {s t : State} (hb : s.burstIteration exec = .next t)
    (h : s.cpuHalted = true ∨ (∃ i, s.fetch = .ok i) ∨ t.phase ≠ s.phase) : t.mem = s.mem := by
  rcases burstIteration_cases hb with ⟨i, -, he⟩ | ⟨⟨r, hr⟩, rfl⟩
  · exact (portFrame_of_exec he).mem
  · rcases h with hhalt | ⟨i, hi⟩ | hphase
    · rw [stepOther_of_halted hhalt, State.haltedStep_mem]
    · simp [hr] at hi
    · simp at hphase

/-- Settles O37: the two writers of memory left, by R101's table, are `engineExecuted` and `engineInjected`. -/
theorem blockNeverWritesMemory : Obligations.BlockNeverWritesMemory := by
  refine ⟨fun i s t he => (portFrame_of_exec he).mem, fun s t hs => ?_⟩
  obtain ⟨-, hcases⟩ := step_cases hs
  rcases hcases with ⟨hph, -, rfl⟩ | ⟨hph, -, hb⟩ | ⟨hph, rfl⟩ | ⟨hph, -, rfl⟩ | ⟨hph, -, hb⟩ | ⟨hph, rfl⟩ | ⟨hph, rfl⟩
  · exact ⟨fun _ => rfl, fun _ _ => rfl⟩
  · exact ⟨by simp [hph], fun _ => burstIteration_mem hb⟩
  · simp [hph]
  · exact ⟨fun _ => rfl, fun _ _ => rfl⟩
  · exact ⟨by simp [hph], fun _ => burstIteration_mem hb⟩
  · exact ⟨fun _ => rfl, fun _ _ => rfl⟩
  · exact ⟨fun _ => s.poll_mem, fun _ _ => s.poll_mem⟩

end Sys2Proof.Machine
end

section
/-! What no rule reads (10_state.md R35, R37; 41_port_bank.md R131; 44_video_decoder.md R190): every operation of a step,
run from the state with the window cache, the watchdog and the framebuffer blanked out, gives the same state up to these. -/

namespace Sys2Proof.Machine

/-- The CPU's step after an IN or OUT commutes with the blanking: the engine does not see what is blanked out. -/
theorem hideUnread_stepPort (s : State) : s.stepPort.hideUnread = s.hideUnread.stepPort := by
  cases h : s.cpuHalted
  · rw [stepPort_of_running h, stepPort_of_running (s := s.hideUnread) h]
    rfl
  · rw [stepPort_of_halted h, stepPort_of_halted (s := s.hideUnread) h]
    rfl

theorem hideUnread_stepOther (s : State) : s.stepOther.hideUnread = s.hideUnread.stepOther := by
  cases h : s.cpuHalted
  · rw [stepOther_of_running h, stepOther_of_running (s := s.hideUnread) h]
    rfl
  · rw [stepOther_of_halted h, stepOther_of_halted (s := s.hideUnread) h]
    rfl

theorem hideUnread_trigger (s : State) (b : Bank) (v : Byte) :
    (s.trigger b v).hideUnread = s.hideUnread.trigger b v := by
  cases b
  · rw [trigger_bank1, trigger_bank1]
    rfl
  · rw [trigger_bank2, trigger_bank2]
    rfl

/-- Two states that differ only in what is blanked out still do so after the CPU's step. -/
theorem hideUnread_stepPort_congr {s t : State} (h : s.hideUnread = t.hideUnread) :
    s.stepPort.hideUnread = t.stepPort.hideUnread := by
  rw [hideUnread_stepPort, hideUnread_stepPort, h]

/-- One IN: what it reads is not blanked out, and IN 3 writes the cache without reading it. -/
theorem hideUnread_runIn (s : State) (port : Byte) :
    (s.hideUnread.runIn port).hideUnread = (s.runIn port).hideUnread := by
  rcases inPort_cases port with rfl | rfl | rfl | rfl | hp
  · exact hideUnread_stepPort_congr rfl
  · exact hideUnread_stepPort_congr rfl
  · exact hideUnread_stepPort_congr rfl
  · exact hideUnread_stepPort_congr rfl
  · simp only [State.runIn, portRead_unmapped _ hp]
    rfl

/-- One OUT: OUT 6 writes the watchdog, and no other OUT touches what is blanked out. -/
theorem hideUnread_runOut (s : State) (port : Byte) :
    (s.hideUnread.runOut port).hideUnread = (s.runOut port).hideUnread := by
  rcases outPort_cases port with rfl | rfl | rfl | rfl | rfl | rfl | hp
  · exact hideUnread_stepPort_congr rfl
  · exact hideUnread_stepPort_congr (by rw [hideUnread_trigger, hideUnread_trigger]; rfl)
  · exact hideUnread_stepPort_congr rfl
  · exact hideUnread_stepPort_congr (by rw [hideUnread_trigger, hideUnread_trigger]; rfl)
  · exact hideUnread_stepPort_congr rfl
  · exact hideUnread_stepPort_congr rfl
  · simp only [State.runOut, portWrite_unmapped _ _ hp]
    rfl

theorem hideUnread_exec (i : Instr) (s : State) :
    mapNext State.hideUnread (exec i s.hideUnread) = mapNext State.hideUnread (exec i s) := by
  rw [exec_eq_run, exec_eq_run]
  refine congrArg Host.Outcome.next ?_
  cases i.cls
  · exact hideUnread_runIn s i.port
  · exact hideUnread_runOut s i.port
  · rfl

theorem hideUnread_burstIteration (s : State) :
    mapNext State.hideUnread (s.hideUnread.burstIteration exec) = mapNext State.hideUnread (s.burstIteration exec) := by
  have hfetch : s.hideUnread.fetch = s.fetch := rfl
  unfold State.burstIteration
  rw [hfetch]
  cases s.fetch with
  | ok i => exact hideUnread_exec i s
  | error r => exact congrArg Host.Outcome.next (by rw [hideUnread_stepOther, hideUnread_stepOther]; rfl)

theorem hideUnread_pollWith (s : State) (held : Key → Bool) (isOpen : Bool) :
    (s.hideUnread.pollWith held isOpen).hideUnread = (s.pollWith held isOpen).hideUnread := by
  have hparams : s.hideUnread.params = s.params := rfl
  unfold State.pollWith
  rw [hparams]
  split <;> rfl

/-- Settles O55: transition by transition of R101's table. -/
theorem unreadStateIsUnobservable : Obligations.UnreadStateIsUnobservable := by
  intro s
  have hstatus : s.hideUnread.status = s.status := rfl
  have hphase : s.hideUnread.phase = s.phase := rfl
  have hcyc : s.hideUnread.cyc = s.cyc := rfl
  have hparams : s.hideUnread.params = s.params := rfl
  unfold step State.transition
  rw [hstatus, hphase, hcyc, hparams]
  cases s.status with
  | exited code => rfl
  | faulted info => rfl
  | running =>
    cases s.phase with
    | burst1 =>
      dsimp only
      split
      · rfl
      · exact hideUnread_burstIteration s
    | deliver => rfl
    | burst2 =>
      dsimp only
      split
      · rfl
      · exact hideUnread_burstIteration s
    | decode => rfl
    | poll => exact congrArg Host.Outcome.next (hideUnread_pollWith s _ _)

end Sys2Proof.Machine
end

section
/-! Power-up (10_state.md R50, 70_reset_and_hazards.md R250). -/

namespace Sys2Proof.Machine

/-- The store at power-up: the image, and the draw P_MEM_INIT wherever the image does not reach. -/
theorem read_powerUp_mem (p : Params) (k : Nat) : Memory.read (State.powerUp p).mem k =
    if k < p.image.length then p.image.getD k unlisted else p.memInit.getD k unlisted :=
  calc Memory.read (imageCells 0 (initialBytes p)) k
    _ = Memory.read (imageCells 0 (initialBytes p)) (0 + k) := by rw [Nat.zero_add]
    _ = (initialBytes p).getD k unlisted := read_imageCells 0 _ k
    _ = _ := getD_initialBytes p k

/-- Settles O1: every register by definition, and memory by `read_powerUp_mem`. -/
theorem powerUpState : Obligations.PowerUpState := fun p =>
  ⟨rfl, rfl, rfl, rfl, rfl, rfl, rfl, rfl, rfl, rfl, rfl, rfl, rfl, rfl, rfl, rfl, read_powerUp_mem p, rfl, rfl, rfl, rfl⟩

theorem powerUp_mem_inside {p : Params} (h : p.wf) : ∀ c ∈ (State.powerUp p).mem, c.1 < p.memSize := by
  intro c hc
  have hlt : c.1 < 0 + (initialBytes p).length := (imageCells_above hc).2.1
  have hle := length_initialBytes_le h.image_fits h.init_fits
  omega

/-- A machine powered up with parameters that meet their constraints is legal (10_state.md R51). -/
theorem powerUp_inv {p : Params} (h : p.wf) : (State.powerUp p).Inv where
  params_ok := h
  mem_canonical := powerUp_mem_wf p
  mem_inside := powerUp_mem_inside h
  pc_inside := Nat.two_pow_pos _
  offset_small := Nat.zero_le _
  switch0_fixed := rfl
  frame_size := List.length_replicate

theorem powerUp_scheduleInv (p : Params) : (State.powerUp p).ScheduleInv := by
  simp [State.ScheduleInv, State.powerUp]

theorem powerUp_alternationInv (p : Params) : (State.powerUp p).AlternationInv := by
  simp [State.AlternationInv, State.powerUp, injectedVectors, alternatingVectors]

theorem powerUp_frameCountInv (p : Params) : (State.powerUp p).FrameCountInv := by
  simp [State.FrameCountInv, State.powerUp, injectedVectors, publishCount]

theorem powerUp_endInv (p : Params) : (State.powerUp p).EndInv := by simp [State.EndInv, State.powerUp]

theorem powerUp_playInv (p : Params) : (State.powerUp p).PlayInv := by simp [State.PlayInv, State.powerUp]

theorem powerUp_unboundInv (p : Params) : (State.powerUp p).UnboundInv := fun _ => ⟨fun _ => rfl, fun _ => rfl⟩

/-- Settles O2: power-up meets each invariant on its empty trace, its first phase and its initial switch bytes. -/
theorem powerUpMeetsInvariants : Obligations.PowerUpMeetsInvariants :=
  ⟨fun p h => ⟨powerUp_inv h, powerUp_scheduleInv p, powerUp_alternationInv p, powerUp_frameCountInv p, powerUp_endInv p,
    powerUp_playInv p, powerUp_unboundInv p⟩, powerUp_inv referenceParams_wf⟩

end Sys2Proof.Machine
end

section
/-! What the block reads of the memory store (20_memory.md R60 to R64): the window's bytes, and the two bytes at `pc`. -/

namespace Sys2Proof.Machine

/-- The window byte of an output pixel lies in the window (44_video_decoder.md R183). -/
theorem pixelByte_lt {p : Params} {ox : Nat} (h : ox < p.outW) (oy : Nat) : pixelByte ox oy < p.vramSize := by
  unfold pixelByte Params.vramSize outH
  omega

/-- Pixel `n` of the frame lies in a column of the portrait output (10_state.md R41). -/
theorem pixel_column_lt {w n : Nat} (h : n < w * outH) : n % w < w :=
  Nat.mod_lt n (Nat.pos_of_lt_mul_right h)

/-- The decoded frame is a function of the window's bytes (R62). -/
theorem decodeFrame_congr {p : Params} {m1 m2 : Memory}
    (h : ∀ i < p.vramSize, windowByte p m1 i = windowByte p m2 i) : decodeFrame p m1 = decodeFrame p m2 := by
  unfold decodeFrame
  refine List.map_congr_left fun n hn => ?_
  have hcolumn := pixel_column_lt (List.mem_range.1 hn)
  unfold pixelLit
  rw [h _ (pixelByte_lt hcolumn _)]

/-- A window byte of legal parameters has an address of P_ADDR_BITS bits (R64; log entry 26). -/
theorem windowByte_congr {p : Params} (hp : p.wf) {m1 m2 : Memory}
    (h : ∀ k < 2 ^ p.addrBits, Memory.read m1 k = Memory.read m2 k) {i : Nat} (hi : i < p.vramSize) :
    windowByte p m1 i = windowByte p m2 i :=
  h _ (lt_of_lt_of_le (Nat.add_lt_add_left hi _) hp.window_formed)

/-- The fetch is a function of the bytes below 2^P_ADDR_BITS (R61, 30_encoding.md R83). -/
theorem fetch_congr {s : State} {m1 m2 : Memory} (hpc : s.pc < 2 ^ s.params.addrBits)
    (h : ∀ k < 2 ^ s.params.addrBits, Memory.read m1 k = Memory.read m2 k) :
    ({ s with mem := m1 } : State).fetch = ({ s with mem := m2 } : State).fetch :=
  congrArg₂ (decodePair s.params) (h _ hpc) (h _ (addrWrap_lt s.params _))

/-- Settles O57: by the place of the window in the address space, and by that of the two bytes at `pc`. -/
theorem blockReadsAddressSpaceOnly : Obligations.BlockReadsAddressSpaceOnly := by
  intro p m1 m2 hp h
  refine ⟨decodeFrame_congr fun i => windowByte_congr hp h, ?_⟩
  rintro s rfl hpc
  exact fetch_congr hpc h

end Sys2Proof.Machine
end

section
/-! Which operation a running machine's step is (40_frame_scheduler.md R101): in a burst below its threshold the iteration,
and in `Deliver` the delivery. -/

namespace Sys2Proof.Machine

/-- A burst below its threshold runs an iteration (R103, R105). -/
theorem step_of_belowThreshold {s : State} (hrun : s.status = .running)
    (h : s.phase = .burst1 ∧ s.cyc < s.params.half ∨ s.phase = .burst2 ∧ s.cyc < s.params.frameCycles) :
    step s = s.burstIteration exec := by
  rcases h with ⟨hph, hcyc⟩ | ⟨hph, hcyc⟩
  · simp only [step, State.transition, hrun, hph, if_neg (Nat.not_le_of_lt hcyc)]
  · simp only [step, State.transition, hrun, hph, if_neg (Nat.not_le_of_lt hcyc)]

theorem step_of_deliver {s : State} (hrun : s.status = .running) (hph : s.phase = .deliver) :
    step s = .next s.deliver := by
  simp only [step, State.transition, hrun, hph]

theorem burstIteration_of_fetch_ok {s : State} {i : Instr} (h : s.fetch = .ok i) : s.burstIteration exec = exec i s := by
  simp only [State.burstIteration, h]

theorem burstIteration_of_fetch_error {s : State} {r : DecodeReject} (h : s.fetch = .error r) :
    s.burstIteration exec = .next s.stepOther := by
  simp only [State.burstIteration, h]

/-- An opcode of class `Other` is fetched as no instruction of the block (30_encoding.md R80). -/
theorem fetch_of_other {s : State} (hin : Memory.read s.mem s.pc ≠ s.params.opcIn)
    (hout : Memory.read s.mem s.pc ≠ s.params.opcOut) : s.fetch = .error (.otherOpcode (Memory.read s.mem s.pc)) := by
  rcases decodePair_cases s.params s.opcodeByte s.portByte with ⟨h, -⟩ | ⟨-, h, -⟩ | ⟨-, -, h⟩
  · exact absurd h hin
  · exact absurd h hout
  · exact h

/-- A two-byte stream decodes as its pair does (R81, R83). -/
theorem decodePair_of_decode {p : Params} {op port : Byte} {i : Instr} {rest : List Byte}
    (h : decode p [op, port] = .ok (i, rest)) : decodePair p op port = .ok i := by
  cases hpair : decodePair p op port with
  | ok j =>
    simp only [decode, hpair, Except.ok.injEq, Prod.mk.injEq] at h
    rw [h.1]
  | error r => simp [decode, hpair] at h

/-- Settles O25: the fetch decodes the bytes at `pc` and `pc + 1`, and the iteration runs what it answers. -/
theorem stepRunsDecodedInstruction : Obligations.StepRunsDecodedInstruction := by
  intro s i hrun hburst hdecode
  have hfetch : s.fetch = .ok i := decodePair_of_decode hdecode
  rw [step_of_belowThreshold hrun hburst, burstIteration_of_fetch_ok hfetch]

end Sys2Proof.Machine
end

section
/-! What the CPU engine wrote is read back (20_memory.md R70, R73, R74). -/

namespace Sys2Proof.Machine

/-- Read after a run of writes, on a store in canonical form: the last write to the address, or what was there. -/
theorem Memory.read_writeAll {m : Memory} (h : Memory.wf m) (size : Nat) (ws : List (Nat × Byte)) (x : Nat) :
    Memory.read (Memory.writeAll m size ws) x =
      match (ws.filter fun w => w.1 % size = x).getLast? with
      | some w => w.2
      | none => Memory.read m x := by
  induction ws generalizing m with
  | nil => rfl
  | cons w ws ih =>
    rw [Memory.writeAll_cons, ih (Memory.write_wf h _ _), Memory.read_write h]
    by_cases hx : w.1 % size = x
    · rw [if_pos hx.symm, List.filter_cons_of_pos (by simpa using hx), List.getLast?_cons]
      cases (ws.filter fun w => w.1 % size = x).getLast? <;> rfl
    · rw [if_neg (Ne.symm hx), List.filter_cons_of_neg (by simpa using hx)]

/-- The step of a running engine at an opcode of class `Other` writes what the engine answers (60_exceptions.md R244). -/
theorem step_other_of_running {s : State} (hrun : s.status = .running) (hhalt : s.cpuHalted = false)
    (hburst : s.phase = .burst1 ∧ s.cyc < s.params.half ∨ s.phase = .burst2 ∧ s.cyc < s.params.frameCycles)
    (hin : Memory.read s.mem s.pc ≠ s.params.opcIn) (hout : Memory.read s.mem s.pc ≠ s.params.opcOut) :
    step s = .next (s.engineExecuted (Config.cpuStep s.draws s.cpuView)) := by
  rw [step_of_belowThreshold hrun hburst, burstIteration_of_fetch_error (fetch_of_other hin hout),
    stepOther_of_running hhalt]

/-- Settles O56: an engine's call writes its answer's bytes one after the other, in a burst and at a delivery alike. -/
theorem engineWritesAreReadBack : Obligations.EngineWritesAreReadBack := by
  refine ⟨fun m size ws x hm => Memory.read_writeAll hm size ws x, fun s hs hrun hhalt hburst hin hout => ?_,
    fun s hs hrun hph => ?_⟩
  · exact ⟨_, step_other_of_running hrun hhalt hburst hin hout, Memory.read_writeAll hs.mem_canonical _ _⟩
  · exact ⟨_, step_of_deliver hrun hph, Memory.read_writeAll hs.mem_canonical _ _⟩

end Sys2Proof.Machine
end

section
/-! The phases (10_state.md R43) and the run status (R44): what one step does to them. -/

namespace Sys2Proof.Machine

section
variable {s t : State}

theorem portRead_status {port v : Byte} (hr : s.portRead port = some (v, t)) : t.status = s.status := by
  rcases portRead_cases hr with ⟨-, -, rfl⟩ | ⟨-, -, rfl⟩ | ⟨-, -, rfl⟩ | ⟨-, -, rfl⟩ <;> rfl

theorem portWrite_status {port v : Byte} (hw : s.portWrite port v = some t) : t.status = s.status := by
  rcases portWrite_cases hw with ⟨-, rfl⟩ | ⟨-, rfl⟩ | ⟨-, rfl⟩ | ⟨-, rfl⟩ | ⟨-, rfl⟩ | ⟨-, rfl⟩ <;> simp

/-- An instruction keeps the run status, or raises a fatal fault (60_exceptions.md R220). -/
theorem exec_status {i : Instr} (he : exec i s = .next t) :
    t.status = s.status ∨ ∃ info, t.status = .faulted info := by
  rcases exec_cases he with ⟨v, u, hr, rfl⟩ | ⟨u, hw, rfl⟩ | ⟨info, rfl⟩
  · exact .inl (by simp [portRead_status hr])
  · exact .inl (by simp [portWrite_status hw])
  · exact .inr ⟨info, rfl⟩

/-- An iteration of a burst stays in it, and keeps the run status or raises a fatal fault. -/
theorem burstIteration_phase_status (hb : s.burstIteration exec = .next t) :
    t.phase = s.phase ∧ (t.status = s.status ∨ ∃ info, t.status = .faulted info) := by
  rcases burstIteration_cases hb with ⟨i, -, he⟩ | ⟨-, rfl⟩
  · exact ⟨(portFrame_of_exec he).phase, exec_status he⟩
  · exact ⟨s.stepOther_phase, .inl s.stepOther_status⟩

end

/-- A poll starts the next frame, or exits where it is (40_frame_scheduler.md R107). -/
theorem poll_phase_status (s : State) :
    (s.poll.phase = .burst1 ∧ s.poll.status = s.status) ∨ (s.poll.phase = s.phase ∧ s.poll.status = .exited 0) := by
  rcases poll_cases s with ⟨-, hp⟩ | ⟨-, hp⟩ <;> rw [hp]
  · exact .inr ⟨rfl, rfl⟩
  · exact .inl ⟨rfl, rfl⟩

/-- Settles O33: row by row of R101's table, by what each transition does to the phase and the status. -/
theorem phasesInOrder : Obligations.PhasesInOrder := by
  intro s t hs
  obtain ⟨hrun, hcases⟩ := step_cases hs
  rcases hcases with ⟨hph, -, rfl⟩ | ⟨hph, -, hb⟩ | ⟨hph, rfl⟩ | ⟨hph, -, rfl⟩ | ⟨hph, -, hb⟩ | ⟨hph, rfl⟩ | ⟨hph, rfl⟩
  · simp [hph, hrun]
  · have hends := burstIteration_phase_status hb
    rw [hph, hrun] at hends
    simp [hph, hends]
  · simp [hph, hrun]
  · simp [hph, hrun]
  · have hends := burstIteration_phase_status hb
    rw [hph, hrun] at hends
    simp [hph, hends]
  · simp [hph, hrun]
  · have hends := poll_phase_status s
    rw [hph, hrun] at hends
    simp [hph, hends]

end Sys2Proof.Machine
end

section
/-! The encoding (30_encoding.md R80 to R87): what the decoder reads from a byte stream, and that a row's mask and match name
the very ports that the decoder gives to the row. -/

namespace Sys2Proof

/-! The opcode's class (R80). -/

theorem classify_eq_other_iff {p : Params} {op : Byte} : classify p op = .other ↔ op ≠ p.opcIn ∧ op ≠ p.opcOut := by
  unfold classify
  split_ifs <;> simp [*]

/-- The opcode byte of an intercepted class has that class (R81, R82). -/
theorem classify_opcodeByte {p : Params} (hp : p.opcIn ≠ p.opcOut) {c : OpClass} (hc : c ≠ .other) :
    classify p (opcodeByte p c) = c := by
  cases c with
  | input => exact classify_opcIn p
  | output => exact classify_opcOut p hp
  | other => exact absurd rfl hc

theorem Instr.cls_ne_other (i : Instr) : i.cls ≠ .other := by cases i <;> simp [Instr.cls]

/-! The ports of a row (R84, R85). Every row of several ports but OUT 0..1 stands for the ports of one power of two. -/

/-- A mask of bits 7 to `k` with a match of bit `k` alone picks the ports whose highest 1 is bit `k`. -/
theorem highBitRow_iff : ∀ (k : Fin 8) (port : Byte),
    (port &&& 0xFF <<< k.val == 1 <<< k.val) = true ↔ 2 ^ k.val ≤ port.toNat ∧ port.toNat < 2 ^ (k.val + 1) := by
  decide

section
variable (port : Byte)

theorem wf_inIllegal4to7 : (Instr.inIllegal4to7 port).wf = true ↔ 4 ≤ port.toNat ∧ port.toNat < 8 :=
  highBitRow_iff 2 port
theorem wf_inIllegal8to15 : (Instr.inIllegal8to15 port).wf = true ↔ 8 ≤ port.toNat ∧ port.toNat < 16 :=
  highBitRow_iff 3 port
theorem wf_inIllegal16to31 : (Instr.inIllegal16to31 port).wf = true ↔ 16 ≤ port.toNat ∧ port.toNat < 32 :=
  highBitRow_iff 4 port
theorem wf_inIllegal32to63 : (Instr.inIllegal32to63 port).wf = true ↔ 32 ≤ port.toNat ∧ port.toNat < 64 :=
  highBitRow_iff 5 port
theorem wf_inIllegal64to127 : (Instr.inIllegal64to127 port).wf = true ↔ 64 ≤ port.toNat ∧ port.toNat < 128 :=
  highBitRow_iff 6 port
theorem wf_inIllegal128to255 : (Instr.inIllegal128to255 port).wf = true ↔ 128 ≤ port.toNat ∧ port.toNat < 256 :=
  highBitRow_iff 7 port
theorem wf_outIllegal0to1 : (Instr.outIllegal0to1 port).wf = true ↔ port.toNat < 2 := by
  revert port; decide
theorem wf_outIllegal8to15 : (Instr.outIllegal8to15 port).wf = true ↔ 8 ≤ port.toNat ∧ port.toNat < 16 :=
  highBitRow_iff 3 port
theorem wf_outIllegal16to31 : (Instr.outIllegal16to31 port).wf = true ↔ 16 ≤ port.toNat ∧ port.toNat < 32 :=
  highBitRow_iff 4 port
theorem wf_outIllegal32to63 : (Instr.outIllegal32to63 port).wf = true ↔ 32 ≤ port.toNat ∧ port.toNat < 64 :=
  highBitRow_iff 5 port
theorem wf_outIllegal64to127 : (Instr.outIllegal64to127 port).wf = true ↔ 64 ≤ port.toNat ∧ port.toNat < 128 :=
  highBitRow_iff 6 port
theorem wf_outIllegal128to255 : (Instr.outIllegal128to255 port).wf = true ↔ 128 ≤ port.toNat ∧ port.toNat < 256 :=
  highBitRow_iff 7 port

end

/-- The IN map gives back every well-formed IN from its port: a row's range fails every earlier test (R85). -/
theorem decodeIn_port {i : Instr} (hcls : i.cls = .input) (hwf : i.wf = true) : decodeIn i.port = i := by
  cases i with
  | in0 | in1 | in2 | in3 => rfl
  | inIllegal4to7 | inIllegal8to15 | inIllegal16to31 | inIllegal32to63 | inIllegal64to127 | inIllegal128to255 =>
    simp only [wf_inIllegal4to7, wf_inIllegal8to15, wf_inIllegal16to31, wf_inIllegal32to63, wf_inIllegal64to127,
      wf_inIllegal128to255] at hwf
    grind [decodeIn, Instr.port]
  | _ => simp [Instr.cls] at hcls

/-- The OUT map gives back every well-formed OUT from its port (R85). -/
theorem decodeOut_port {i : Instr} (hcls : i.cls = .output) (hwf : i.wf = true) : decodeOut i.port = i := by
  cases i with
  | out2 | out3 | out4 | out5 | out6 | out7 => rfl
  | outIllegal0to1 | outIllegal8to15 | outIllegal16to31 | outIllegal32to63 | outIllegal64to127 | outIllegal128to255 =>
    simp only [wf_outIllegal0to1, wf_outIllegal8to15, wf_outIllegal16to31, wf_outIllegal32to63, wf_outIllegal64to127,
      wf_outIllegal128to255] at hwf
    grind [decodeOut, Instr.port]
  | _ => simp [Instr.cls] at hcls

/-! One pair of bytes (R81, R83). -/

/-- The pair that a well-formed instruction encodes decodes to it. -/
theorem decodePair_encoded {p : Params} (hp : p.opcIn ≠ p.opcOut) {i : Instr} (hwf : i.wf = true) :
    decodePair p (opcodeByte p i.cls) i.port = .ok i := by
  unfold decodePair
  rw [classify_opcodeByte hp i.cls_ne_other]
  cases hcls : i.cls with
  | input => simp only [decodeIn_port hcls hwf]
  | output => simp only [decodeOut_port hcls hwf]
  | other => exact absurd hcls i.cls_ne_other

/-- What a pair decodes to is well formed, and has that pair's bytes. -/
theorem row_of_decodePair {p : Params} {op port : Byte} {i : Instr} (h : decodePair p op port = .ok i) :
    i.wf = true ∧ opcodeByte p i.cls = op ∧ i.port = port := by
  rcases decodePair_cases p op port with ⟨rfl, hd⟩ | ⟨-, rfl, hd⟩ | ⟨-, -, hd⟩
  · obtain rfl := Except.ok.inj (hd.symm.trans h)
    obtain ⟨hwf, hcls, hport⟩ := decodeIn_row port
    exact ⟨hwf, by rw [hcls]; rfl, hport⟩
  · obtain rfl := Except.ok.inj (hd.symm.trans h)
    obtain ⟨hwf, hcls, hport⟩ := decodeOut_row port
    exact ⟨hwf, by rw [hcls]; rfl, hport⟩
  · simp [hd] at h

/-! A byte stream (R81, R87). -/

theorem decode_of_decodePair_ok {p : Params} {op port : Byte} {i : Instr} (h : decodePair p op port = .ok i)
    (rest : List Byte) : decode p (op :: port :: rest) = .ok (i, rest) := by
  simp only [decode, h]

theorem decode_of_decodePair_error {p : Params} {op port : Byte} {r : DecodeReject}
    (h : decodePair p op port = .error r) (rest : List Byte) : decode p (op :: port :: rest) = .error r := by
  simp only [decode, h]

/-- A decode that answers took the first two bytes, as their pair decodes, and left the rest. -/
theorem pair_of_decode {p : Params} {bytes rest : List Byte} {i : Instr} (h : decode p bytes = .ok (i, rest)) :
    ∃ op port, bytes = op :: port :: rest ∧ decodePair p op port = .ok i := by
  match bytes with
  | [] => simp [decode] at h
  | [op] =>
    simp only [decode] at h
    split at h <;> simp at h
  | op :: port :: tail =>
    cases hpair : decodePair p op port with
    | ok j =>
      obtain ⟨rfl, rfl⟩ := Prod.mk.inj (Except.ok.inj ((decode_of_decodePair_ok hpair tail).symm.trans h))
      exact ⟨op, port, rfl, hpair⟩
    | error r => simp [decode_of_decodePair_error hpair] at h

/-- Settles O4: the encoding's opcode has the instruction's class, and the map of that class gives the port's row back. -/
theorem decodeEncodeAgree : Obligations.DecodeEncodeAgree :=
  fun _ _ rest hp hwf => decode_of_decodePair_ok (decodePair_encoded hp hwf) rest

/-- Settles O5: by the pair that the decode read, which is the row's own encoding. -/
theorem decodedIsWellFormed : Obligations.DecodedIsWellFormed := by
  intro p bytes i rest h
  obtain ⟨op, port, rfl, hpair⟩ := pair_of_decode h
  obtain ⟨hwf, rfl, rfl⟩ := row_of_decodePair hpair
  exact ⟨hwf, rfl⟩

/-- Settles O6: by the class of the opcode, which alone decides whether the operand is looked at. -/
theorem decoderRejectsByClass : Obligations.DecoderRejectsByClass := by
  intro p op port rest
  refine ⟨rfl, fun hin hout => ⟨?_, ?_⟩, fun hop => ⟨?_, ?_⟩⟩
  · exact if_pos (classify_other p hin hout)
  · have hpair : decodePair p op port = .error (.otherOpcode op) := by
      simp only [decodePair, classify_other p hin hout]
    exact decode_of_decodePair_error hpair rest
  · have hclass : classify p op ≠ .other := fun hother =>
      have ⟨hin, hout⟩ := classify_eq_other_iff.1 hother
      hop.elim hin hout
    exact if_neg hclass
  · rcases decodePair_cases p op port with ⟨-, hd⟩ | ⟨-, -, hd⟩ | ⟨hin, hout, -⟩
    · exact ⟨_, decode_of_decodePair_ok hd rest⟩
    · exact ⟨_, decode_of_decodePair_ok hd rest⟩
    · exact absurd hop (not_or_intro hin hout)

/-- Settles O7: the seven words are written out, so the decoder runs on each. -/
theorem portWordsDecode : Obligations.PortWordsDecode := by
  unfold Obligations.PortWordsDecode
  decide

end Sys2Proof
end

section
/-! An opcode of class `Other` (30_encoding.md R80, 60_exceptions.md R244): the step is the CPU engine's own. -/

namespace Sys2Proof.Machine

/-- The step of a halted engine whose `pc` stands at an opcode of class `Other` (R259). -/
theorem step_other_of_halted {s : State} (hrun : s.status = .running) (hhalt : s.cpuHalted = true)
    (hburst : s.phase = .burst1 ∧ s.cyc < s.params.half ∨ s.phase = .burst2 ∧ s.cyc < s.params.frameCycles)
    (hin : Memory.read s.mem s.pc ≠ s.params.opcIn) (hout : Memory.read s.mem s.pc ≠ s.params.opcOut) :
    step s = .next (s.haltedStep (Config.cpuStep s.draws s.cpuView)) := by
  rw [step_of_belowThreshold hrun hburst, burstIteration_of_fetch_error (fetch_of_other hin hout),
    stepOther_of_halted hhalt]

/-- Settles O26: the step is `engineExecuted` of the engine's answer where the engine runs, and `haltedStep` where it is
halted. -/
theorem otherOpcodePassesThrough : Obligations.OtherOpcodePassesThrough := fun _ hrun hburst hin hout =>
  ⟨fun hrunning => step_other_of_running hrun hrunning hburst hin hout,
    fun hhalt => step_other_of_halted hrun hhalt hburst hin hout⟩

end Sys2Proof.Machine
end

section
/-! The frame scheduler's transitions outside a burst iteration (40_frame_scheduler.md R103 to R107), each as one update of
the state. -/

namespace Sys2Proof.Machine

section
variable {s : State} (hrun : s.status = .running)
include hrun

theorem step_of_burst1_end (hph : s.phase = .burst1) (hcyc : s.params.half ≤ s.cyc) :
    step s = .next { s with phase := .deliver } := by
  simp only [step, State.transition, hrun, hph, if_pos hcyc]

theorem step_of_burst2_end (hph : s.phase = .burst2) (hcyc : s.params.frameCycles ≤ s.cyc) :
    step s = .next { s with phase := .decode } := by
  simp only [step, State.transition, hrun, hph, if_pos hcyc]

theorem step_of_decode (hph : s.phase = .decode) : step s = .next s.decodeAndPublish := by
  simp only [step, State.transition, hrun, hph]

theorem step_of_poll (hph : s.phase = .poll) : step s = .next s.poll := by
  simp only [step, State.transition, hrun, hph]

end

/-- The vector by the cursor (10_state.md R40). -/
theorem State.vector_eq_ite (s : State) :
    s.vector = if s.cursor = .first then s.params.vecFirst else s.params.vecSecond := by
  unfold State.vector
  cases s.cursor <;> rfl

theorem Cursor.flip_eq_ite (c : Cursor) : c.flip = if c = .first then .second else .first := by
  cases c <;> rfl

/-- Settles O28: the threshold test comes before the iteration. -/
theorem burstEndsAtThreshold : Obligations.BurstEndsAtThreshold := fun _ hrun =>
  ⟨step_of_burst1_end hrun, step_of_burst2_end hrun⟩

/-- Settles O29: the step is `State.deliver`, with the vector and the flip read off the cursor. -/
theorem interruptDelivery : Obligations.InterruptDelivery := by
  intro s hrun hph v ans
  have hv : s.vector = v := s.vector_eq_ite
  rw [step_of_deliver hrun hph, State.deliver, Cursor.flip_eq_ite, hv]
  rfl

/-- Settles O30: the step is `State.decodeAndPublish`, and `packColour` is R187's table. -/
theorem decodePublishesFrame : Obligations.DecodePublishesFrame :=
  ⟨fun _ hrun hph => step_of_decode hrun hph, fun _ => ⟨rfl, rfl, rfl, rfl⟩, rfl, rfl, rfl, rfl⟩

/-- Settles O31: the step is `State.poll`, which tests the exit key and the surface after the bindings. -/
theorem pollEndsFrame : Obligations.PollEndsFrame := by
  intro s hrun hph held sw
  rw [step_of_poll hrun hph]
  rcases poll_cases s with ⟨hexit, hp⟩ | ⟨hgoes, hp⟩ <;> rw [hp]
  · exact .inl ⟨by simpa using hexit, rfl⟩
  · exact .inr ⟨by simpa using hgoes, rfl⟩

end Sys2Proof.Machine
end

section
/-! The cycle count (40_frame_scheduler.md R102, R103, R105, R108): an iteration of a burst adds what the engine's `step()`
returned, the next frame starts at 0, and no other step touches `cyc`. -/

namespace Sys2Proof.Machine

@[simp] theorem State.stepPort_cyc (s : State) :
    s.stepPort.cyc = s.cyc + (Config.cpuStep s.draws s.cpuView).cycles := by
  unfold State.stepPort; split <;> rfl

@[simp] theorem State.stepOther_cyc (s : State) :
    s.stepOther.cyc = s.cyc + (Config.cpuStep s.draws s.cpuView).cycles := by
  unfold State.stepOther; split <;> rfl

/-- From `s` to `t` the engine's `step()`, called with `a` in the accumulator, is counted and the status kept, or a fatal
fault comes first and nothing is counted (R103, R105, 60_exceptions.md R220). -/
def State.CountsStep (s t : State) (a : Byte) : Prop :=
  (t.status = s.status ∧ t.cyc = s.cyc + (Config.cpuStep s.draws { s.cpuView with a := a }).cycles) ∨
  ((∃ info, t.status = .faulted info) ∧ t.cyc = s.cyc)

section
variable {s t : State}

theorem State.CountsStep.cyc_le {a : Byte} (h : s.CountsStep t a) : s.cyc ≤ t.cyc := by
  rcases h with ⟨-, hcyc⟩ | ⟨-, hcyc⟩ <;> omega

/-- A port read keeps what the engine's next call depends on (41_port_bank.md R121). -/
theorem portRead_cyc_draws_view {port v : Byte} (hr : s.portRead port = some (v, t)) :
    t.cyc = s.cyc ∧ t.draws = s.draws ∧ t.cpuView = s.cpuView := by
  rcases portRead_cases hr with ⟨-, -, rfl⟩ | ⟨-, -, rfl⟩ | ⟨-, -, rfl⟩ | ⟨-, -, rfl⟩ <;> exact ⟨rfl, rfl, rfl⟩

/-- A port write keeps what the engine's next call depends on (R122). -/
theorem portWrite_cyc_draws_view {port v : Byte} (hw : s.portWrite port v = some t) :
    t.cyc = s.cyc ∧ t.draws = s.draws ∧ t.cpuView = s.cpuView := by
  rcases portWrite_cases hw with ⟨-, rfl⟩ | ⟨-, rfl⟩ | ⟨-, rfl⟩ | ⟨-, rfl⟩ | ⟨-, rfl⟩ | ⟨-, rfl⟩ <;>
    simp [State.cpuView]

end

/-- One IN: the engine is called after the read value is in A (R120). -/
theorem runIn_countsStep (s : State) (port : Byte) : s.CountsStep (s.runIn port) (s.runIn port).a := by
  rcases runIn_cases s port with ⟨v, u, hr, hrun⟩ | ⟨-, hrun⟩ <;> rw [hrun]
  · obtain ⟨hcyc, hdraws, hview⟩ := portRead_cyc_draws_view hr
    have hset : (u.setA v).cpuView = { s.cpuView with a := v } := by rw [← hview]; rfl
    exact .inl ⟨by simp [portRead_status hr], by simp [hset, hcyc, hdraws]⟩
  · exact .inr ⟨⟨_, rfl⟩, rfl⟩

/-- One OUT: A is as it was (R120). -/
theorem runOut_countsStep (s : State) (port : Byte) : s.CountsStep (s.runOut port) s.a := by
  rcases runOut_cases s port with ⟨u, hw, hrun⟩ | ⟨-, hrun⟩ <;> rw [hrun]
  · obtain ⟨hcyc, hdraws, hview⟩ := portWrite_cyc_draws_view hw
    refine .inl ⟨by simp [portWrite_status hw], ?_⟩
    rw [State.stepPort_cyc, hcyc, hdraws, hview]
    rfl
  · exact .inr ⟨⟨_, rfl⟩, rfl⟩

/-- Any other opcode: the block has no part in the call (R244). -/
theorem stepOther_countsStep (s : State) : s.CountsStep s.stepOther s.a :=
  .inl ⟨s.stepOther_status, s.stepOther_cyc⟩

theorem exec_decodeIn (s : State) (port : Byte) : exec (decodeIn port) s = .next (s.runIn port) := by
  obtain ⟨-, hcls, hport⟩ := decodeIn_row port
  rw [exec_eq_run, hcls, hport]

theorem exec_decodeOut (s : State) (port : Byte) : exec (decodeOut port) s = .next (s.runOut port) := by
  obtain ⟨-, hcls, hport⟩ := decodeOut_row port
  rw [exec_eq_run, hcls, hport]

/-- An iteration of a burst answers, in its phase, and counts the engine's call; an IN, and nothing else, gives the engine a
new A. -/
theorem burstIteration_counts (s : State) :
    ∃ t, s.burstIteration exec = .next t ∧ t.phase = s.phase ∧
      s.CountsStep t (if s.opcodeByte = s.params.opcIn then t.a else s.a) := by
  suffices h : ∃ t, s.burstIteration exec = .next t ∧
      s.CountsStep t (if s.opcodeByte = s.params.opcIn then t.a else s.a) by
    obtain ⟨t, hb, hcount⟩ := h
    exact ⟨t, hb, (burstIteration_phase_status hb).1, hcount⟩
  rcases decodePair_cases s.params s.opcodeByte s.portByte with ⟨hin, hd⟩ | ⟨hin, -, hd⟩ | ⟨hin, -, hd⟩
  · refine ⟨_, (burstIteration_of_fetch_ok hd).trans (exec_decodeIn s _), ?_⟩
    rw [if_pos hin]
    exact runIn_countsStep s _
  · refine ⟨_, (burstIteration_of_fetch_ok hd).trans (exec_decodeOut s _), ?_⟩
    rw [if_neg hin]
    exact runOut_countsStep s _
  · refine ⟨_, burstIteration_of_fetch_error hd, ?_⟩
    rw [if_neg hin]
    exact stepOther_countsStep s

/-- An iteration of a burst does not lower the count. -/
theorem burstIteration_cyc_le {s t : State} (hb : s.burstIteration exec = .next t) : s.cyc ≤ t.cyc := by
  obtain ⟨u, hu, -, hcount⟩ := burstIteration_counts s
  obtain rfl := Host.Outcome.next.inj (hb.symm.trans hu)
  exact hcount.cyc_le

/-- A poll starts the next frame with `cyc = 0`, or exits and keeps the count (R102, R107). -/
theorem poll_phase_cyc (s : State) :
    (s.poll.phase = .burst1 ∧ s.poll.cyc = 0) ∨
    (s.poll.phase = s.phase ∧ s.poll.status = .exited 0 ∧ s.poll.cyc = s.cyc) := by
  rcases poll_cases s with ⟨-, hp⟩ | ⟨-, hp⟩ <;> rw [hp]
  · exact .inr ⟨rfl, rfl, rfl⟩
  · exact .inl ⟨rfl, rfl⟩

/-- What a step does to the count: an iteration may add to it, a poll may reset it, and no other step changes it. -/
theorem step_cyc {s t : State} (hs : step s = .next t) :
    ((s.phase = .burst1 ∧ s.cyc < s.params.half ∨ s.phase = .burst2 ∧ s.cyc < s.params.frameCycles) ∧ s.cyc ≤ t.cyc) ∨
    t.cyc = s.cyc ∨ (s.phase = .poll ∧ t.phase = .burst1 ∧ t.cyc = 0) := by
  obtain ⟨-, hcases⟩ := step_cases hs
  rcases hcases with ⟨-, -, rfl⟩ | ⟨hph, hlt, hb⟩ | ⟨-, rfl⟩ | ⟨-, -, rfl⟩ | ⟨hph, hlt, hb⟩ | ⟨-, rfl⟩ | ⟨hph, rfl⟩
  · exact .inr (.inl rfl)
  · exact .inl ⟨.inl ⟨hph, hlt⟩, burstIteration_cyc_le hb⟩
  · exact .inr (.inl rfl)
  · exact .inr (.inl rfl)
  · exact .inl ⟨.inr ⟨hph, hlt⟩, burstIteration_cyc_le hb⟩
  · exact .inr (.inl rfl)
  · rcases poll_phase_cyc s with ⟨hnext, hcyc⟩ | ⟨-, -, hcyc⟩
    · exact .inr (.inr ⟨hph, hnext, hcyc⟩)
    · exact .inr (.inl hcyc)

/-- Settles O27: a burst below its threshold runs an iteration, and any other step keeps or resets the count. -/
theorem burstCountsStepCycles : Obligations.BurstCountsStepCycles := by
  refine ⟨fun s hrun hburst => ?_, fun s t hs hno => (step_cyc hs).resolve_left fun h => hno h.1⟩
  obtain ⟨t, hb, hph, hcount⟩ := burstIteration_counts s
  rw [State.CountsStep, hrun] at hcount
  exact ⟨t, (step_of_belowThreshold hrun hburst).trans hb, hph, hcount⟩

/-- Settles O34: by what a poll and a step do to the count. -/
theorem cyclesResetOnlyAtFrameStart : Obligations.CyclesResetOnlyAtFrameStart := by
  refine fun s t hs => ⟨fun hph => ?_, ?_⟩
  · obtain ⟨hrun, -⟩ := step_cases hs
    obtain rfl := Host.Outcome.next.inj ((step_of_poll hrun hph).symm.trans hs)
    rcases poll_phase_cyc s with hstart | ⟨hpoll, hexit, -⟩
    · exact .inl hstart
    · exact .inr ⟨hpoll.trans hph, hexit⟩
  · rcases step_cyc hs with ⟨-, hle⟩ | hcyc | hreset
    · exact .inl hle
    · exact .inl hcyc.ge
    · exact .inr hreset

end Sys2Proof.Machine
end

section
/-! The schedule (40_frame_scheduler.md R108): a threshold that let the frame go on stays reached until the frame's end. -/

namespace Sys2Proof.Machine

section
variable {s t : State} (h : s.ScheduleInv)
include h

/-- A step that stays in its phase and does not lower the count keeps the schedule. -/
theorem State.ScheduleInv.of_same_phase (hparams : t.params = s.params) (hph : t.phase = s.phase) (hcyc : s.cyc ≤ t.cyc) :
    t.ScheduleInv := by
  obtain ⟨hhalf, hfull⟩ := h
  unfold State.ScheduleInv
  rw [hparams, hph]
  exact ⟨fun hlate => (hhalf hlate).trans hcyc, fun hlate => (hfull hlate).trans hcyc⟩

theorem State.ScheduleInv.of_step (hs : step s = .next t) : t.ScheduleInv := by
  have iteration (hb : s.burstIteration exec = .next t) : t.ScheduleInv :=
    h.of_same_phase (step_params hs) (burstIteration_phase_status hb).1 (burstIteration_cyc_le hb)
  obtain ⟨-, hcases⟩ := step_cases hs
  rcases hcases with ⟨-, hhalf, rfl⟩ | ⟨-, -, hb⟩ | ⟨hph, rfl⟩ | ⟨-, hfull, rfl⟩ | ⟨-, -, hb⟩ | ⟨hph, rfl⟩ | ⟨-, rfl⟩
  · exact ⟨fun _ => hhalf, by simp⟩
  · exact iteration hb
  · exact ⟨fun _ => h.1 (.inl hph), by simp⟩
  · exact ⟨by simp, fun _ => hfull⟩
  · exact iteration hb
  · exact ⟨by simp, fun _ => h.2 (.inl hph)⟩
  · rcases poll_phase_cyc s with ⟨hstart, -⟩ | ⟨hpoll, -, hcyc⟩
    · simp [State.ScheduleInv, hstart]
    · exact h.of_same_phase s.poll_params hpoll hcyc.ge

end

/-- Settles O42: `State.ScheduleInv` is inductive; each threshold is tested by the step that leaves its burst. -/
theorem stepKeepsSchedule : Obligations.StepKeepsSchedule := fun _ _ h hs => h.of_step hs

end Sys2Proof.Machine
end

section
/-! The interrupt and the publish of each frame (40_frame_scheduler.md R100, R109): the delivery alone injects, the decode alone
publishes. -/

namespace Sys2Proof.Machine

section
variable (l m : List Event)

@[simp] theorem injectedVectors_append : injectedVectors (l ++ m) = injectedVectors l ++ injectedVectors m :=
  List.filterMap_append

@[simp] theorem publishCount_append : publishCount (l ++ m) = publishCount l + publishCount m :=
  List.countP_append

@[simp] theorem injectedVectors_inject (v : Nat) : injectedVectors [.inject v] = [v] := rfl
@[simp] theorem injectedVectors_publish (f : List Pixel) : injectedVectors [.publish f] = [] := rfl
@[simp] theorem publishCount_inject (v : Nat) : publishCount [.inject v] = 0 := rfl
@[simp] theorem publishCount_publish (f : List Pixel) : publishCount [.publish f] = 1 := rfl

end

/-- The sound events are no part of the frame's schedule. -/
theorem frameEvents_bankPlays (b : Bank) (old v : Byte) :
    injectedVectors (bankPlays b (risingBits b old v)) = [] ∧ publishCount (bankPlays b (risingBits b old v)) = 0 := by
  constructor
  · refine List.filterMap_eq_nil_iff.2 fun e he => ?_
    obtain ⟨k, -, rfl, -⟩ := bankPlays_samples he
    rfl
  · refine List.countP_eq_zero.2 fun e he => ?_
    obtain ⟨k, -, rfl, -⟩ := bankPlays_samples he
    exact Bool.false_ne_true

/-- From `s` to `t` nothing is injected or published, and the cursor stays. -/
structure State.FrameQuiet (s t : State) : Prop where
  injected  : injectedVectors t.trace = injectedVectors s.trace
  published : publishCount t.trace = publishCount s.trace
  cursor    : t.cursor = s.cursor

section
variable {s t : State}

/-- A step that appends no `Inject` and no `Publish` is quiet. -/
theorem State.FrameQuiet.of_append {new : List Event} (htrace : t.trace = s.trace ++ new)
    (hinject : injectedVectors new = []) (hpublish : publishCount new = 0) (hcursor : t.cursor = s.cursor) :
    s.FrameQuiet t where
  injected := by simp [htrace, hinject]
  published := by simp [htrace, hpublish]
  cursor := hcursor

theorem State.FrameQuiet.of_trace_eq (htrace : t.trace = s.trace) (hcursor : t.cursor = s.cursor) : s.FrameQuiet t :=
  .of_append (new := []) (by simp [htrace]) rfl rfl hcursor

/-- An IN or OUT emits sounds or a fatal fault at most. -/
theorem frameQuiet_of_exec {i : Instr} (he : exec i s = .next t) : s.FrameQuiet t := by
  have hcursor := (portFrame_of_exec he).cursor
  rcases exec_cases he with ⟨v, u, hr, rfl⟩ | ⟨u, hw, rfl⟩ | ⟨info, rfl⟩
  · exact .of_trace_eq (by simp [portRead_trace hr]) hcursor
  · rcases portWrite_trace hw with htrace | ⟨b, htrace⟩
    · exact .of_trace_eq (by simp [htrace]) hcursor
    · obtain ⟨hinject, hpublish⟩ := frameEvents_bankPlays b (s.latch b) s.a
      exact .of_append (by rw [State.stepPort_trace, htrace]) hinject hpublish hcursor
  · exact .of_append rfl rfl rfl hcursor

theorem frameQuiet_of_burstIteration (hb : s.burstIteration exec = .next t) : s.FrameQuiet t := by
  rcases burstIteration_cases hb with ⟨i, -, he⟩ | ⟨-, rfl⟩
  · exact frameQuiet_of_exec he
  · exact .of_trace_eq s.stepOther_trace s.stepOther_cursor

theorem frameQuiet_poll (s : State) : s.FrameQuiet s.poll := by
  rcases poll_cases s with ⟨-, hp⟩ | ⟨-, hp⟩ <;> rw [hp]
  · exact .of_append rfl rfl rfl rfl
  · exact .of_trace_eq rfl rfl

/-- The frame's interrupt has been delivered and its publish has not come yet. -/
def State.betweenEvents (s : State) : Prop := s.phase = .burst2 ∨ s.phase = .decode

/-- What a step does to the frame's two events: the delivery, the decode, or a quiet step on one side of them. -/
theorem step_frameEvents (hs : step s = .next t) :
    (s.phase = .deliver ∧ t = s.deliver) ∨ (s.phase = .decode ∧ t = s.decodeAndPublish) ∨
    (s.FrameQuiet t ∧ (t.betweenEvents ↔ s.betweenEvents)) := by
  have iteration (hb : s.burstIteration exec = .next t) : s.FrameQuiet t ∧ (t.betweenEvents ↔ s.betweenEvents) := by
    unfold State.betweenEvents
    rw [(burstIteration_phase_status hb).1]
    exact ⟨frameQuiet_of_burstIteration hb, Iff.rfl⟩
  obtain ⟨-, hcases⟩ := step_cases hs
  rcases hcases with ⟨hph, -, rfl⟩ | ⟨-, -, hb⟩ | h | ⟨hph, -, rfl⟩ | ⟨-, -, hb⟩ | h | ⟨hph, rfl⟩
  · exact .inr (.inr ⟨.of_trace_eq rfl rfl, by simp [State.betweenEvents, hph]⟩)
  · exact .inr (.inr (iteration hb))
  · exact .inl h
  · exact .inr (.inr ⟨.of_trace_eq rfl rfl, by simp [State.betweenEvents, hph]⟩)
  · exact .inr (.inr (iteration hb))
  · exact .inr (.inl h)
  · refine .inr (.inr ⟨frameQuiet_poll s, ?_⟩)
    rcases poll_phase_cyc s with ⟨hstart, -⟩ | ⟨hpoll, -⟩
    · simp [State.betweenEvents, hstart, hph]
    · simp [State.betweenEvents, hpoll]

end

/-- The vector after `n` in turn is the first or the second by the parity of `n`. -/
theorem alternatingVectors_succ (p : Params) (n : Nat) : alternatingVectors p (n + 1) =
    alternatingVectors p n ++ [if n % 2 = 0 then p.vecFirst else p.vecSecond] := by
  simp [alternatingVectors, List.range_succ]

theorem Cursor.flip_eq_first_iff (c : Cursor) : c.flip = .first ↔ c ≠ .first := by
  cases c <;> simp [Cursor.flip]

section
variable {s t : State}

theorem State.AlternationInv.deliver (h : s.AlternationInv) : s.deliver.AlternationInv := by
  obtain ⟨hvectors, hcursor⟩ := h
  have hlength : (injectedVectors s.deliver.trace).length = (injectedVectors s.trace).length + 1 := by simp
  unfold State.AlternationInv
  rw [hlength]
  constructor
  · rw [State.deliver_trace, injectedVectors_append, injectedVectors_inject, State.deliver_params,
      alternatingVectors_succ, ← hvectors, State.vector_eq_ite]
    simp only [hcursor]
  · rw [State.deliver_cursor, Cursor.flip_eq_first_iff, ne_eq, hcursor]
    omega

theorem State.AlternationInv.of_quiet (h : s.AlternationInv) (hquiet : s.FrameQuiet t) (hparams : t.params = s.params) :
    t.AlternationInv := by
  unfold State.AlternationInv
  rwa [hquiet.injected, hquiet.cursor, hparams]

/-- The decode publishes: nothing is injected, and the cursor stays. -/
theorem State.AlternationInv.decodeAndPublish (h : s.AlternationInv) : s.decodeAndPublish.AlternationInv := by
  simpa [State.AlternationInv] using h

theorem State.FrameCountInv.of_quiet (h : s.FrameCountInv) (hquiet : s.FrameQuiet t)
    (hside : t.betweenEvents ↔ s.betweenEvents) : t.FrameCountInv := by
  unfold State.betweenEvents at hside
  unfold State.FrameCountInv
  simp only [hquiet.injected, hquiet.published, hside]
  exact h

theorem State.FrameCountInv.deliver (h : s.FrameCountInv) (hph : s.phase = .deliver) : s.deliver.FrameCountInv := by
  simpa [State.FrameCountInv, hph] using h

theorem State.FrameCountInv.decodeAndPublish (h : s.FrameCountInv) (hph : s.phase = .decode) :
    s.decodeAndPublish.FrameCountInv := by
  simpa [State.FrameCountInv, hph] using h

end

/-- Settles O43: only the delivery injects, and what it injects is the cursor's vector, whose place in turn the cursor's
flips count. -/
theorem interruptVectorsAlternate : Obligations.InterruptVectorsAlternate := by
  intro s t h hs
  rcases step_frameEvents hs with ⟨-, rfl⟩ | ⟨-, rfl⟩ | ⟨hquiet, -⟩
  · exact h.deliver
  · exact h.decodeAndPublish
  · exact h.of_quiet hquiet (step_params hs)

/-- Settles O44: the delivery raises the one count, the decode the other, and no other step crosses from one side of them
to the other. -/
theorem onePublishPerInterrupt : Obligations.OnePublishPerInterrupt := by
  intro s t h hs
  rcases step_frameEvents hs with ⟨hph, rfl⟩ | ⟨hph, rfl⟩ | ⟨hquiet, hside⟩
  · exact h.deliver hph
  · exact h.decodeAndPublish hph
  · exact h.of_quiet hquiet hside

end Sys2Proof.Machine
end

section
/-! The port bank (41_port_bank.md R120 to R131): the CPU's `step()` after a port instruction, the ports that
fault, the switch ports, the watchdog and the spare port. -/

namespace Sys2Proof.Machine

/-! The two opcodes with any port after them (30_encoding.md R81, R85). -/

theorem decode_opcIn (p : Params) (port : Byte) : decode p [p.opcIn, port] = .ok (decodeIn port, []) :=
  decode_of_decodePair_ok (by simp only [decodePair, classify_opcIn]) []

theorem decode_opcOut {p : Params} (hp : p.opcIn ≠ p.opcOut) (port : Byte) :
    decode p [p.opcOut, port] = .ok (decodeOut port, []) :=
  decode_of_decodePair_ok (by simp only [decodePair, classify_opcOut p hp]) []

/-! The illegal ports (R127, R130): one rule for each class, whatever the row is called. -/

theorem runIn_unmapped (s : State) {port : Byte} (h : 4 ≤ port.toNat) :
    s.runIn port = s.raiseFatal (.portRead port s.pc) := by
  simp only [State.runIn, portRead_unmapped s h]

theorem runOut_unmapped (s : State) {port : Byte} (h : port.toNat < 2 ∨ 8 ≤ port.toNat) :
    s.runOut port = s.raiseFatal (.portWrite port s.pc s.a) := by
  simp only [State.runOut, portWrite_unmapped s s.a h]

theorem exec_illegalIn {i : Instr} (hcls : i.cls = .input) (hport : 4 ≤ i.port.toNat) (s : State) :
    exec i s = .next (s.raiseFatal (.portRead i.port s.pc)) := by
  rw [exec_eq_run, hcls, ← runIn_unmapped s hport]

theorem exec_illegalOut {i : Instr} (hcls : i.cls = .output) (hport : i.port.toNat < 2 ∨ 8 ≤ i.port.toNat) (s : State) :
    exec i s = .next (s.raiseFatal (.portWrite i.port s.pc s.a)) := by
  rw [exec_eq_run, hcls, ← runOut_unmapped s hport]

/-- Settles O16: each row's ports are 4 or above, and there the IN raises. -/
theorem illegalPortReadFaults : Obligations.IllegalPortReadFaults := by
  refine ⟨fun s p => ⟨fun h => ?_, fun h => ?_, fun h => ?_, fun h => ?_, fun h => ?_, fun h => ?_⟩, fun c p hp => ?_⟩
  · exact exec_illegalIn (i := .inIllegal4to7 p) rfl ((wf_inIllegal4to7 p).1 h).1 s
  · exact exec_illegalIn rfl (Nat.le_trans (by decide) ((wf_inIllegal8to15 p).1 h).1) s
  · exact exec_illegalIn rfl (Nat.le_trans (by decide) ((wf_inIllegal16to31 p).1 h).1) s
  · exact exec_illegalIn rfl (Nat.le_trans (by decide) ((wf_inIllegal32to63 p).1 h).1) s
  · exact exec_illegalIn rfl (Nat.le_trans (by decide) ((wf_inIllegal64to127 p).1 h).1) s
  · exact exec_illegalIn rfl (Nat.le_trans (by decide) ((wf_inIllegal128to255 p).1 h).1) s
  · refine ⟨decodeIn p, decode_opcIn c p, fun s => ?_⟩
    rw [exec_decodeIn, runIn_unmapped s hp]
    rfl

/-- Settles O17: each row's ports are below 2 or from 8 up, and there the OUT raises. -/
theorem illegalPortWriteFaults : Obligations.IllegalPortWriteFaults := by
  refine ⟨fun s p => ⟨fun h => ?_, fun h => ?_, fun h => ?_, fun h => ?_, fun h => ?_, fun h => ?_⟩,
    fun c p hc hp => ?_⟩
  · exact exec_illegalOut (i := .outIllegal0to1 p) rfl (.inl ((wf_outIllegal0to1 p).1 h)) s
  · exact exec_illegalOut (i := .outIllegal8to15 p) rfl (.inr ((wf_outIllegal8to15 p).1 h).1) s
  · exact exec_illegalOut rfl (.inr (Nat.le_trans (by decide) ((wf_outIllegal16to31 p).1 h).1)) s
  · exact exec_illegalOut rfl (.inr (Nat.le_trans (by decide) ((wf_outIllegal32to63 p).1 h).1)) s
  · exact exec_illegalOut rfl (.inr (Nat.le_trans (by decide) ((wf_outIllegal64to127 p).1 h).1)) s
  · exact exec_illegalOut rfl (.inr (Nat.le_trans (by decide) ((wf_outIllegal128to255 p).1 h).1)) s
  · refine ⟨decodeOut p, decode_opcOut hc p, fun s => ?_⟩
    rw [exec_decodeOut, runOut_unmapped s hp]
    rfl

/-- Settles O8: the engine executes the instruction, or is halted and executes nothing. -/
theorem portDispatch : Obligations.PortDispatch := fun _ => ⟨stepPort_of_running, stepPort_of_halted⟩

/-- Settles O15: ports 6 and 7 are legal, so the write and the CPU's step are all. -/
theorem watchdogAndSparePort : Obligations.WatchdogAndSparePort :=
  ⟨fun _ hp => ⟨decode_opcOut hp 6, decode_opcOut hp 7⟩, fun _ => ⟨rfl, rfl⟩⟩

/-! The switch bytes (R124 to R126; 10_state.md R31, R32) through one step. -/

section
variable {s t : State}

theorem burstIteration_switches (hb : s.burstIteration exec = .next t) :
    t.switch0 = s.switch0 ∧ t.switch1 = s.switch1 ∧ t.switch2 = s.switch2 := by
  rcases burstIteration_cases hb with ⟨i, -, he⟩ | ⟨-, rfl⟩
  · have hframe := portFrame_of_exec he
    exact ⟨hframe.switch0, hframe.switch1, hframe.switch2⟩
  · simp

@[simp] theorem State.poll_switch0 (s : State) : s.poll.switch0 = s.switch0 := by
  rcases poll_cases s with ⟨-, hp⟩ | ⟨-, hp⟩ <;> rw [hp] <;> rfl

/-- A step keeps the three switch bytes, a poll `switch0` alone. -/
theorem step_keeps_switches (hs : step s = .next t) :
    t.switch0 = s.switch0 ∧ (s.phase ≠ .poll → t.switch1 = s.switch1 ∧ t.switch2 = s.switch2) := by
  obtain ⟨-, hcases⟩ := step_cases hs
  rcases hcases with ⟨-, -, rfl⟩ | ⟨-, -, hb⟩ | ⟨-, rfl⟩ | ⟨-, -, rfl⟩ | ⟨-, -, hb⟩ | ⟨-, rfl⟩ | ⟨hph, rfl⟩
  · exact ⟨rfl, fun _ => ⟨rfl, rfl⟩⟩
  · exact (burstIteration_switches hb).imp_right fun h _ => h
  · exact ⟨rfl, fun _ => ⟨rfl, rfl⟩⟩
  · exact ⟨rfl, fun _ => ⟨rfl, rfl⟩⟩
  · exact (burstIteration_switches hb).imp_right fun h _ => h
  · exact ⟨rfl, fun _ => ⟨rfl, rfl⟩⟩
  · exact ⟨s.poll_switch0, fun h => absurd hph h⟩

end

/-- Settles O9: ports 0 to 2 are legal, so each read is A and the CPU's step; and by what a step does to the three bytes. -/
theorem switchPortReads : Obligations.SwitchPortReads := by
  refine ⟨fun p => ⟨decode_opcIn p 0, decode_opcIn p 1, decode_opcIn p 2⟩, fun s => ⟨rfl, rfl, rfl⟩,
    fun p => ⟨rfl, rfl⟩, fun s t hs => ?_⟩
  obtain ⟨hswitch0, hswitches⟩ := step_keeps_switches hs
  exact ⟨hswitch0, step_params hs, hswitches⟩

end Sys2Proof.Machine
end

section
/-! The frame of the port instructions, register by register (41_port_bank.md R131, 10_state.md R49): by class and port, then
by instruction. -/

namespace Sys2Proof

/-- A well-formed instruction is the only one of its class and port (30_encoding.md R85). -/
theorem Instr.eq_of_cls_of_port {i j : Instr} (hi : i.wf = true) (hj : j.wf = true) (hcls : i.cls = j.cls)
    (hport : i.port = j.port) : i = j := by
  cases h : j.cls with
  | input => rw [← decodeIn_port (hcls.trans h) hi, hport, decodeIn_port h hj]
  | output => rw [← decodeOut_port (hcls.trans h) hi, hport, decodeOut_port h hj]
  | other => exact absurd h j.cls_ne_other

/-- Another well-formed instruction differs in its class or its port. -/
theorem Instr.cls_or_port_ne {i j : Instr} (h : i ≠ j) (hi : i.wf = true) (hj : j.wf = true) :
    ¬ (i.cls = j.cls ∧ i.port = j.port) := fun ⟨hcls, hport⟩ => h (eq_of_cls_of_port hi hj hcls hport)

end Sys2Proof

namespace Sys2Proof.Machine

/-- The ports that do not fault: 0..3 for IN, 2..7 for OUT (R127, R130). -/
def legalPort (c : OpClass) (port : Byte) : Prop :=
  c = .input ∧ port.toNat < 4 ∨ c = .output ∧ 2 ≤ port.toNat ∧ port.toNat < 8

/-- `t` holds each register as `s` does, but for those that an instruction of class `c` writes at `port`; a legal port keeps
the status, and the trace unless it is a sound port (R121, R122). -/
structure State.RegisterFrame (c : OpClass) (port : Byte) (s t : State) : Prop where
  a           : ¬ (c = .input ∧ port = 0) → ¬ (c = .input ∧ port = 1) → ¬ (c = .input ∧ port = 2) →
                ¬ (c = .input ∧ port = 3) → t.a = s.a
  shiftAmount : ¬ (c = .output ∧ port = 2) → t.shiftAmount = s.shiftAmount
  shiftData   : ¬ (c = .output ∧ port = 4) → t.shiftData = s.shiftData
  shiftOut    : ¬ (c = .input ∧ port = 3) → t.shiftOut = s.shiftOut
  soundLatch1 : ¬ (c = .output ∧ port = 3) → t.soundLatch1 = s.soundLatch1
  soundLatch2 : ¬ (c = .output ∧ port = 5) → t.soundLatch2 = s.soundLatch2
  watchdog    : ¬ (c = .output ∧ port = 6) → t.watchdog = s.watchdog
  status      : legalPort c port → t.status = s.status
  trace       : legalPort c port → ¬ (c = .output ∧ port = 3) → ¬ (c = .output ∧ port = 5) → t.trace = s.trace

theorem registerFrame_raiseFatal {c : OpClass} {port : Byte} (h : ¬ legalPort c port) (s : State) (info : FatalInfo) :
    s.RegisterFrame c port (s.raiseFatal info) := by
  constructor <;> simp [h]

theorem registerFrame_runIn (s : State) (port : Byte) : s.RegisterFrame .input port (s.runIn port) := by
  rcases runIn_cases s port with ⟨v, u, hr, hrun⟩ | ⟨hport, hrun⟩ <;> rw [hrun]
  · rcases portRead_cases hr with ⟨rfl, rfl, rfl⟩ | ⟨rfl, rfl, rfl⟩ | ⟨rfl, rfl, rfl⟩ | ⟨rfl, rfl, rfl⟩ <;>
      constructor <;> simp
  · exact registerFrame_raiseFatal (by simp [legalPort, hport]) s _

theorem registerFrame_runOut (s : State) (port : Byte) : s.RegisterFrame .output port (s.runOut port) := by
  rcases runOut_cases s port with ⟨u, hw, hrun⟩ | ⟨hport, hrun⟩ <;> rw [hrun]
  · rcases portWrite_cases hw with ⟨rfl, rfl⟩ | ⟨rfl, rfl⟩ | ⟨rfl, rfl⟩ | ⟨rfl, rfl⟩ | ⟨rfl, rfl⟩ | ⟨rfl, rfl⟩ <;>
      constructor <;> simp [trigger_latches]
  · exact registerFrame_raiseFatal (by simp only [legalPort, reduceCtorEq, false_and, false_or, true_and]; omega) s _

section
variable {i : Instr} {s t : State}

/-- An instruction keeps what its class and port do not write, an ill-formed one too (log entry 24). -/
theorem registerFrame_of_exec (he : exec i s = .next t) : s.RegisterFrame i.cls i.port t := by
  obtain rfl := Host.Outcome.next.inj ((exec_eq_run i s).symm.trans he)
  cases hcls : i.cls with
  | input => exact registerFrame_runIn s i.port
  | output => exact registerFrame_runOut s i.port
  | other => exact absurd hcls i.cls_ne_other

/-- What a port instruction leaves of the CPU engine: a running one keeps its halt state and the rest, a halted one its `pc`
(R123, 70_reset_and_hazards.md R259). -/
def State.EngineFrame (s t : State) : Prop :=
  (s.cpuHalted = false → t.cpuRest = s.cpuRest ∧ t.cpuHalted = s.cpuHalted) ∧ (s.cpuHalted = true → t.pc = s.pc)

theorem engineFrame_stepPort (s : State) : s.EngineFrame s.stepPort := by
  refine ⟨fun h => ?_, fun h => ?_⟩
  · rw [stepPort_of_running h]
    exact ⟨rfl, rfl⟩
  · rw [stepPort_of_halted h]
    rfl

/-- The intercept before the step keeps the engine's own state. -/
theorem State.EngineFrame.of_kept {u : State} (h : u.EngineFrame t) (hhalted : u.cpuHalted = s.cpuHalted)
    (hrest : u.cpuRest = s.cpuRest) (hpc : u.pc = s.pc) : s.EngineFrame t := by
  rwa [State.EngineFrame, hhalted, hrest, hpc] at h

theorem engineFrame_of_exec (he : exec i s = .next t) : s.EngineFrame t := by
  rcases exec_cases he with ⟨v, u, hr, rfl⟩ | ⟨u, hw, rfl⟩ | ⟨info, rfl⟩
  · obtain ⟨-, -, hview⟩ := portRead_cyc_draws_view hr
    exact (engineFrame_stepPort (u.setA v)).of_kept (congrArg CpuView.halted hview) (congrArg CpuView.rest hview)
      (congrArg CpuView.pc hview)
  · obtain ⟨-, -, hview⟩ := portWrite_cyc_draws_view hw
    exact (engineFrame_stepPort u).of_kept (congrArg CpuView.halted hview) (congrArg CpuView.rest hview)
      (congrArg CpuView.pc hview)
  · exact ⟨fun _ => ⟨rfl, rfl⟩, fun _ => rfl⟩

end

/-- Settles O18: what no port touches, what the class and port write, and the engine's own state; a well-formed instruction is
named by its class and port. -/
theorem portInstructionFrame : Obligations.PortInstructionFrame := by
  intro i s t he
  have hframe := portFrame_of_exec he
  have hreg := registerFrame_of_exec he
  obtain ⟨hrunning, hhalted⟩ := engineFrame_of_exec he
  refine ⟨⟨hframe.params, hframe.switch0, hframe.switch1, hframe.switch2, hframe.cursor, hframe.framebuffer,
    hframe.phase⟩, fun addr => by rw [hframe.mem], fun h0 h1 h2 h3 hwf => ?_, fun h hwf => ?_, fun h hwf => ?_,
    fun h hwf => ?_, fun h hwf => ?_, fun h hwf => ?_, fun h hwf => ?_,
    fun hlegal => ⟨hreg.status hlegal, fun h3 h5 hwf => ?_⟩, fun h => ⟨(hrunning h).1, hrunning h⟩, hhalted⟩
  · exact hreg.a (Instr.cls_or_port_ne h0 hwf rfl) (Instr.cls_or_port_ne h1 hwf rfl) (Instr.cls_or_port_ne h2 hwf rfl)
      (Instr.cls_or_port_ne h3 hwf rfl)
  · exact hreg.shiftAmount (Instr.cls_or_port_ne h hwf rfl)
  · exact hreg.shiftData (Instr.cls_or_port_ne h hwf rfl)
  · exact hreg.shiftOut (Instr.cls_or_port_ne h hwf rfl)
  · exact hreg.soundLatch1 (Instr.cls_or_port_ne h hwf rfl)
  · exact hreg.soundLatch2 (Instr.cls_or_port_ne h hwf rfl)
  · exact hreg.watchdog (Instr.cls_or_port_ne h hwf rfl)
  · exact hreg.trace hlegal (Instr.cls_or_port_ne h3 hwf rfl) (Instr.cls_or_port_ne h5 hwf rfl)

end Sys2Proof.Machine
end

section
/-! The shift register (42_shift_register.md R140 to R146): the window and the load as numbers and as bytes, what each of its
three instructions leaves in its registers, and the laws of several in a row. -/

namespace Sys2Proof.Machine

/-! The operations -/

theorem and_seven_eq_ofNat_mod (v : Byte) : v &&& 0x7 = BitVec.ofNat 8 (v.toNat % 8) :=
  BitVec.eq_of_toNat_eq (by
    rw [BitVec.toNat_and, BitVec.toNat_ofNat, Nat.mod_eq_of_lt (a := v.toNat % 8) (by omega)]
    exact Nat.and_two_pow_sub_one_eq_mod v.toNat 3)

/-- An offset that fits in 3 bits is stored as it is (R142). -/
theorem and_seven_of_le {n : Byte} (h : n.toNat ≤ 7) : n &&& 0x7 = n := by
  rw [and_seven_eq_ofNat_mod, Nat.mod_eq_of_lt (by omega), BitVec.ofNat_toNat, BitVec.setWidth_eq]

theorem shiftWindow_eq_ofNat (d : HalfWord) (n : Byte) :
    shiftWindow d n = BitVec.ofNat 8 (d.toNat / 2 ^ (8 - n.toNat) % 256) := by
  rw [← shiftWindow_toNat, BitVec.ofNat_toNat, BitVec.setWidth_eq]

theorem shiftLoad_eq_ofNat (v : Byte) (d : HalfWord) :
    shiftLoad v d = BitVec.ofNat 16 (v.toNat * 256 + d.toNat / 256) := by
  rw [← shiftLoad_toNat, BitVec.ofNat_toNat, BitVec.setWidth_eq]

/-- The second load pushes the first one's byte down and the old high byte out (R144). -/
theorem shiftLoad_shiftLoad (v1 v2 : Byte) (d : HalfWord) :
    shiftLoad v2 (shiftLoad v1 d) = (v2 ++ v1 : BitVec (8 + 8)) := by
  apply BitVec.eq_of_toNat_eq
  have hd := d.isLt
  rw [shiftLoad_toNat, shiftLoad_toNat, BitVec.toNat_append, ← Nat.shiftLeft_add_eq_or_of_lt v1.isLt, Nat.shiftLeft_eq]
  omega

/-- A second load of `v` changes nothing just when `v` was the high byte before the first (R144; log entry 21). -/
theorem shiftLoad_shiftLoad_eq_iff (v : Byte) (d : HalfWord) :
    shiftLoad v (shiftLoad v d) = shiftLoad v d ↔ d.toNat / 256 = v.toNat := by
  have hd := d.isLt
  rw [← BitVec.toNat_inj, shiftLoad_toNat v (shiftLoad v d), shiftLoad_toNat]
  omega

/-- The window of two bytes: the offset's high bits of `lo` under the rest of `hi` (R145). -/
theorem shiftWindow_append (hi lo n : Byte) (h : n.toNat ≤ 7) :
    shiftWindow (hi ++ lo : BitVec (8 + 8)) n = (hi <<< n.toNat) ||| (lo >>> (8 - n.toNat)) := by
  apply BitVec.eq_of_getLsbD_eq
  intro i hi8
  simp only [shiftWindow, BitVec.getLsbD_setWidth, BitVec.getLsbD_ushiftRight, BitVec.getLsbD_append, BitVec.getLsbD_or,
    BitVec.getLsbD_shiftLeft, hi8, decide_true, Bool.true_and]
  by_cases hlow : i < n.toNat
  · have : 8 - n.toNat + i < 8 := by omega
    simp [hlow, this]
  · have hhigh : 8 ≤ 8 - n.toNat + i := by omega
    have hindex : 8 - n.toNat + i - 8 = i - n.toNat := by omega
    simp [hlow, hhigh, hindex]

/-! The instructions: each is its operation and the CPU's step (R141 to R143). -/

theorem exec_out2 (s : State) :
    exec .out2 s = .next (State.stepPort { s with shiftAmount := s.a &&& 0x7 }) := rfl

theorem exec_out4 (s : State) :
    exec .out4 s = .next (State.stepPort { s with shiftData := shiftLoad s.a s.shiftData }) := rfl

section
variable {s t : State}

theorem shiftRegister_of_in3 (h : exec .in3 s = .next t) :
    t.a = shiftWindow s.shiftData s.shiftAmount ∧ t.shiftData = s.shiftData ∧ t.shiftAmount = s.shiftAmount := by
  obtain rfl := Host.Outcome.next.inj ((exec_in3 s).symm.trans h)
  simp

theorem shiftRegister_of_out2 (h : exec .out2 s = .next t) :
    t.shiftData = s.shiftData ∧ t.shiftAmount = s.a &&& 0x7 := by
  obtain rfl := Host.Outcome.next.inj ((exec_out2 s).symm.trans h)
  simp

theorem shiftRegister_of_out4 (h : exec .out4 s = .next t) :
    t.shiftData = shiftLoad s.a s.shiftData ∧ t.shiftAmount = s.shiftAmount := by
  obtain rfl := Host.Outcome.next.inj ((exec_out4 s).symm.trans h)
  simp

end

/-- Settles O10: the number R140 gives is the window, which IN 3 puts in A and the cache. -/
theorem in3ReadsWindow : Obligations.In3ReadsWindow := by
  refine ⟨fun p => decode_opcIn p 3, fun s _ => ?_⟩
  rw [← shiftWindow_eq_ofNat]
  exact exec_in3 s

/-- Settles O11: the low 3 bits are the remainder by 8. -/
theorem out2SetsOffset : Obligations.Out2SetsOffset := by
  refine ⟨fun p hp => decode_opcOut hp 2, fun s => ?_⟩
  rw [← and_seven_eq_ofNat_mod]
  exact exec_out2 s

/-- Settles O12: the number R143 gives is the load. -/
theorem out4LoadsByte : Obligations.Out4LoadsByte := by
  refine ⟨fun p hp => decode_opcOut hp 4, fun s => ?_⟩
  rw [← shiftLoad_eq_ofNat]
  exact exec_out4 s

/-- Settles O19: by the two laws of a load after a load. -/
theorem twoLoadsDetermineRegister : Obligations.TwoLoadsDetermineRegister := by
  intro s t u v1 v2 h1 h2
  have ht := (shiftRegister_of_out4 h1).1
  have hu := (shiftRegister_of_out4 h2).1
  rw [hu, ht]
  refine ⟨shiftLoad_shiftLoad v1 v2 s.shiftData, ?_⟩
  rintro rfl
  exact shiftLoad_shiftLoad_eq_iff v1 s.shiftData

/-- Settles O20: the two loads leave both bytes, and IN 3 reads their window at the offset. -/
theorem windowOfTwoLoads : Obligations.WindowOfTwoLoads := by
  intro s t u w r v1 v2 n hn h1 h2 hoffset hread
  have ht : t.shiftData = shiftLoad v1 s.shiftData := (shiftRegister_of_out4 h1).1
  have hu : u.shiftData = shiftLoad v2 t.shiftData := (shiftRegister_of_out4 h2).1
  have hw : w.shiftData = u.shiftData ∧ w.shiftAmount = n &&& 0x7 := shiftRegister_of_out2 hoffset
  calc r.a = shiftWindow w.shiftData w.shiftAmount := (shiftRegister_of_in3 hread).1
    _ = shiftWindow (v2 ++ v1 : BitVec (8 + 8)) n := by
      rw [hw.1, hw.2, hu, ht, shiftLoad_shiftLoad, and_seven_of_le hn]
    _ = _ := shiftWindow_append v2 v1 n hn

/-- Settles O21: in either order the register and the offset are the same, and IN 3 changes neither. -/
theorem shiftRegisterWritesCommute : Obligations.ShiftRegisterWritesCommute := by
  refine ⟨fun s t u w t' u' w' x y ht hu hw ht' hu' hw' => ?_, fun s t u ht hu => ?_⟩
  · obtain ⟨htd, hta⟩ := shiftRegister_of_out2 ht
    obtain ⟨hud, hua⟩ := shiftRegister_of_out4 hu
    obtain ⟨htd', hta'⟩ := shiftRegister_of_out4 ht'
    obtain ⟨hud', hua'⟩ := shiftRegister_of_out2 hu'
    have hdata : u.shiftData = u'.shiftData := by rw [hud, htd, hud', htd']
    have hamount : u.shiftAmount = u'.shiftAmount := by rw [hua, hta, hua']
    rw [(shiftRegister_of_in3 hw).1, (shiftRegister_of_in3 hw').1, hdata, hamount]
  · obtain ⟨hta, htd, htn⟩ := shiftRegister_of_in3 ht
    refine ⟨?_, htd, htn⟩
    rw [(shiftRegister_of_in3 hu).1, hta, htd, htn]

end Sys2Proof.Machine
end

section
/-! The audio trigger (43_audio_trigger.md R160 to R166): a write to a sound bank latches A and requests the samples of its
rising bits, and nothing else requests a sample. -/

namespace Sys2Proof.Machine

/-- The instruction that writes the bank: OUT 3 or OUT 5 (R161, R162). -/
def Bank.out (b : Bank) : Instr :=
  match b with
  | .bank1 => .out3
  | .bank2 => .out5

theorem exec_bankOut (b : Bank) (s : State) : exec b.out s = .next (s.trigger b s.a).stepPort := by cases b <;> rfl

/-- Settles O13: OUT 3 is the trigger of bank 1, whose `v != old` test changes no outcome. -/
theorem soundBank1Write : Obligations.SoundBank1Write := by
  refine ⟨fun p hp => decode_opcOut hp 3, fun s => ?_⟩
  rw [← bankPlays_bank1, ← trigger_bank1]
  exact exec_bankOut .bank1 s

/-- Settles O14: OUT 5 is the trigger of bank 2, likewise. -/
theorem soundBank2Write : Obligations.SoundBank2Write := by
  refine ⟨fun p hp => decode_opcOut hp 5, fun s => ?_⟩
  rw [← bankPlays_bank2, ← trigger_bank2]
  exact exec_bankOut .bank2 s

/-! The latch and the requests of one write (R163). -/

@[simp] theorem State.latch_setA (s : State) (b : Bank) (v : Byte) : (s.setA v).latch b = s.latch b := by cases b <;> rfl

@[simp] theorem State.latch_stepPort (s : State) (b : Bank) : s.stepPort.latch b = s.latch b := by
  cases b
  · exact s.stepPort_soundLatch1
  · exact s.stepPort_soundLatch2

@[simp] theorem State.latch_trigger (s : State) (b : Bank) (v : Byte) : (s.trigger b v).latch b = v := by
  obtain ⟨h1, -, h2, -⟩ := trigger_latches s v
  cases b
  · exact h1
  · exact h2

/-- Writing the latch's own value is no write at all. -/
theorem State.trigger_latch_self (s : State) (b : Bank) : s.trigger b (s.latch b) = s := if_pos rfl

/-- One write requests the sample of a mapped bit once if the bit rises, and else not at all. -/
theorem count_bankPlays {b : Bank} {k : Nat} (hk : b.mask.getLsbD k = true) (old v : Byte) :
    (bankPlays b (risingBits b old v)).count (.play (b.base + k)) =
      if v.getLsbD k = true ∧ old.getLsbD k = false then 1 else 0 := by
  have hinj : Function.Injective fun j => Event.play (b.base + j) := fun i j h => Nat.add_left_cancel (Event.play.inj h)
  have hk8 : k < 8 := BitVec.lt_of_getLsbD hk
  rw [bankPlays, filterMap_guard, List.count_map_of_injective _ _ hinj, (List.nodup_range.filter _).count]
  simp [risingBits, hk, hk8]

section
variable {b : Bank} {s t u w : State}

theorem bank_of_out (h : exec b.out s = .next t) :
    t.a = s.a ∧ t.latch b = s.a ∧ t.trace = s.trace ++ bankPlays b (risingBits b (s.latch b) s.a) := by
  obtain rfl := Host.Outcome.next.inj ((exec_bankOut b s).symm.trans h)
  simp [trigger_trace]

/-- A second write of the same A is silent and keeps the latch (R165). -/
theorem silent_of_out_out (ht : exec b.out s = .next t) (hu : exec b.out t = .next u) :
    u.trace = t.trace ∧ u.latch b = t.latch b := by
  obtain ⟨ha, hlatch, -⟩ := bank_of_out ht
  have hsame : t.a = t.latch b := ha.trans hlatch.symm
  obtain rfl := Host.Outcome.next.inj ((exec_bankOut b t).symm.trans hu)
  rw [hsame, t.trigger_latch_self]
  exact ⟨t.stepPort_trace, t.latch_stepPort b⟩

/-- A write of `v` leaves `v` in the latch and requests a mapped bit's sample `n` when the bit rises. -/
theorem count_play_of_out {v : Byte} {k n : Nat} (hk : b.mask.getLsbD k = true) (hn : n = b.base + k)
    (h : exec b.out (s.setA v) = .next t) :
    t.latch b = v ∧ t.trace.count (.play n) =
      s.trace.count (.play n) + if v.getLsbD k = true ∧ (s.latch b).getLsbD k = false then 1 else 0 := by
  obtain ⟨-, hlatch, htrace⟩ := bank_of_out h
  refine ⟨hlatch, ?_⟩
  rw [htrace, List.count_append, hn, count_bankPlays hk, State.latch_setA]
  rfl

/-- A mapped bit written 1, 0, 1 from 0 requests its sample `n` at the first and at the third write (R165). -/
theorem count_play_of_rise_fall_rise {x y z : Byte} {k n : Nat} (hk : b.mask.getLsbD k = true) (hn : n = b.base + k)
    (hs : (s.latch b).getLsbD k = false) (hx : x.getLsbD k = true) (hy : y.getLsbD k = false) (hz : z.getLsbD k = true)
    (ht : exec b.out (s.setA x) = .next t) (hu : exec b.out (t.setA y) = .next u)
    (hw : exec b.out (u.setA z) = .next w) :
    t.trace.count (.play n) = s.trace.count (.play n) + 1 ∧ u.trace.count (.play n) = t.trace.count (.play n) ∧
    w.trace.count (.play n) = u.trace.count (.play n) + 1 := by
  obtain ⟨htlatch, htcount⟩ := count_play_of_out hk hn ht
  obtain ⟨hulatch, hucount⟩ := count_play_of_out hk hn hu
  obtain ⟨-, hwcount⟩ := count_play_of_out hk hn hw
  rw [htlatch] at hucount
  rw [hulatch] at hwcount
  refine ⟨?_, ?_, ?_⟩
  · rw [htcount, if_pos ⟨hx, hs⟩]
  · rw [hucount, if_neg (by simp [hy]), Nat.add_zero]
  · rw [hwcount, if_pos ⟨hz, hy⟩]

end

/-- Settles O23: by the laws of two and of three writes, on each bank. -/
theorem soundsOnlyOnRise : Obligations.SoundsOnlyOnRise := by
  refine ⟨fun s t u => ⟨silent_of_out_out (b := .bank1), silent_of_out_out (b := .bank2)⟩,
    fun s t u w x y z k hk => ?_, fun s t u w x y z k hk => ?_⟩
  · have hmask : ∀ k < 4, Bank.bank1.mask.getLsbD k = true := by decide
    exact count_play_of_rise_fall_rise (b := .bank1) (hmask k hk) k.zero_add.symm
  · have hmask : ∀ k < 5, Bank.bank2.mask.getLsbD k = true := by decide
    exact count_play_of_rise_fall_rise (b := .bank2) (hmask k hk) rfl

/-! Nothing else requests a sample (R166). -/

/-- From `s` to `t` no sample is requested. -/
def State.SoundQuiet (s t : State) : Prop := ∀ n, t.trace.count (.play n) = s.trace.count (.play n)

section
variable {s t : State}

theorem State.SoundQuiet.of_append {new : List Event} (htrace : t.trace = s.trace ++ new)
    (hnew : ∀ n, Event.play n ∉ new) : s.SoundQuiet t := fun n => by
  rw [htrace, List.count_append, List.count_eq_zero.2 (hnew n), Nat.add_zero]

theorem State.SoundQuiet.of_trace_eq (htrace : t.trace = s.trace) : s.SoundQuiet t := fun n => by rw [htrace]

theorem soundQuiet_raiseFatal (s : State) (info : FatalInfo) : s.SoundQuiet (s.raiseFatal info) :=
  .of_append (s.raiseFatal_trace info) (by simp)

theorem soundQuiet_runIn (s : State) (port : Byte) : s.SoundQuiet (s.runIn port) := by
  rcases runIn_cases s port with ⟨v, u, hr, hrun⟩ | ⟨-, hrun⟩ <;> rw [hrun]
  · exact .of_trace_eq (by simp [portRead_trace hr])
  · exact soundQuiet_raiseFatal s _

/-- One OUT is a bank's, or quiet. -/
theorem runOut_sound (s : State) (port : Byte) : (∃ b : Bank, decodeOut port = b.out) ∨ s.SoundQuiet (s.runOut port) := by
  rcases runOut_cases s port with ⟨u, hw, hrun⟩ | ⟨-, hrun⟩ <;> rw [hrun]
  · rcases portWrite_cases hw with ⟨-, rfl⟩ | ⟨rfl, -⟩ | ⟨-, rfl⟩ | ⟨rfl, -⟩ | ⟨-, rfl⟩ | ⟨-, rfl⟩
    · exact .inr (.of_trace_eq (State.stepPort_trace _))
    · exact .inl ⟨.bank1, rfl⟩
    · exact .inr (.of_trace_eq (State.stepPort_trace _))
    · exact .inl ⟨.bank2, rfl⟩
    · exact .inr (.of_trace_eq (State.stepPort_trace _))
    · exact .inr (.of_trace_eq (State.stepPort_trace _))
  · exact .inr (soundQuiet_raiseFatal s _)

/-- One iteration of a burst runs a bank's OUT, or is quiet. -/
theorem burstIteration_sound (hb : s.burstIteration exec = .next t) :
    (∃ b : Bank, s.fetch = .ok b.out ∧ exec b.out s = .next t) ∨ s.SoundQuiet t := by
  rcases burstIteration_cases hb with ⟨i, hf, he⟩ | ⟨-, rfl⟩
  · rcases decodePair_cases s.params s.opcodeByte s.portByte with ⟨-, hd⟩ | ⟨-, -, hd⟩ | ⟨-, -, hd⟩
    · obtain rfl := Except.ok.inj (hf.symm.trans hd)
      obtain rfl := Host.Outcome.next.inj ((exec_decodeIn s _).symm.trans he)
      exact .inr (soundQuiet_runIn s _)
    · obtain rfl := Except.ok.inj (hf.symm.trans hd)
      refine (runOut_sound s s.portByte).imp (fun ⟨b, hout⟩ => ⟨b, hout ▸ hf, hout ▸ he⟩) fun hquiet => ?_
      obtain rfl := Host.Outcome.next.inj ((exec_decodeOut s _).symm.trans he)
      exact hquiet
    · cases hf.symm.trans hd
  · exact .inr (.of_trace_eq s.stepOther_trace)

/-- A step runs a bank's OUT in a burst, or is quiet. -/
theorem step_sound (hs : step s = .next t) :
    ((s.phase = .burst1 ∨ s.phase = .burst2) ∧ ∃ b : Bank, s.fetch = .ok b.out ∧ exec b.out s = .next t) ∨
    s.SoundQuiet t := by
  obtain ⟨-, hcases⟩ := step_cases hs
  rcases hcases with ⟨-, -, rfl⟩ | ⟨hph, -, hb⟩ | ⟨-, rfl⟩ | ⟨-, -, rfl⟩ | ⟨hph, -, hb⟩ | ⟨-, rfl⟩ | ⟨-, rfl⟩
  · exact .inr (.of_trace_eq rfl)
  · exact (burstIteration_sound hb).imp_left (.intro (.inl hph))
  · exact .inr (.of_append (new := [.inject s.vector]) rfl (by simp))
  · exact .inr (.of_trace_eq rfl)
  · exact (burstIteration_sound hb).imp_left (.intro (.inr hph))
  · exact .inr (.of_append rfl (by simp))
  · rcases poll_trace s with h | h
    · exact .inr (.of_append h (by simp))
    · exact .inr (.of_trace_eq h)

/-- The samples of bank 1's mapped bits are among 0..3, those of bank 2's among 4..8 (R160). -/
theorem Bank.sample_range {b : Bank} : ∀ k < 8, b.mask.getLsbD k = true →
    b = .bank1 ∧ b.base + k ≤ 3 ∨ b = .bank2 ∧ 4 ≤ b.base + k ∧ b.base + k ≤ 8 := by
  cases b <;> decide

/-- A bank's OUT requests only samples of its bank. -/
theorem sample_of_out {b : Bank} {n : Nat} (h : exec b.out s = .next t)
    (hn : t.trace.count (.play n) ≠ s.trace.count (.play n)) :
    b = .bank1 ∧ n ≤ 3 ∨ b = .bank2 ∧ 4 ≤ n ∧ n ≤ 8 := by
  obtain ⟨-, -, htrace⟩ := bank_of_out h
  rw [htrace, List.count_append, Ne, Nat.add_eq_left, List.count_eq_zero, not_not] at hn
  obtain ⟨k, hk, he, hmask⟩ := bankPlays_samples hn
  obtain rfl := Event.play.inj he
  exact Bank.sample_range k hk hmask

end

/-- Settles O40: the step is not quiet, so it runs a bank's OUT, and the sample is one of that bank's. -/
theorem soundOnlyFromSoundPorts : Obligations.SoundOnlyFromSoundPorts := by
  intro s t n hs hn
  obtain ⟨hburst, b, hfetch, he⟩ := (step_sound hs).resolve_right fun hquiet => hn (hquiet n)
  refine ⟨hburst, (sample_of_out he hn).imp ?_ ?_⟩
  · rintro ⟨rfl, hle⟩
    exact ⟨hfetch, hle⟩
  · rintro ⟨rfl, hrange⟩
    exact ⟨hfetch, hrange⟩

end Sys2Proof.Machine
end

section
/-! The bit-to-pixel map and its inverse (44_video_decoder.md R181 to R183), and the decoded frame read pixel by pixel (R186). -/

namespace Sys2Proof.Machine

section
variable {i k : Nat}

/-- A window bit lies in a column of the portrait output (R182). -/
theorem nativeY_lt {w : Nat} (hi : i < w * 32) : nativeY i < w :=
  Nat.div_lt_of_lt_mul (Nat.mul_comm w 32 ▸ hi)

section
variable (hk : k < 8)
include hk

/-- A window bit lies in a column of the native raster (R181). -/
theorem nativeX_lt : nativeX i k < outH := by
  unfold nativeX outH
  omega

theorem pixelByte_native : pixelByte (nativeY i) (outH - 1 - nativeX i k) = i := by
  unfold pixelByte nativeY nativeX outH
  omega

theorem pixelBit_native : pixelBit (outH - 1 - nativeX i k) = k := by
  unfold pixelBit nativeX outH
  omega

/-- The pixel of bit `k` of window byte `i` shows that bit (R180). -/
theorem pixelLit_native (p : Params) (m : Memory) :
    pixelLit p m (nativeY i) (outH - 1 - nativeX i k) = (windowByte p m i).getLsbD k := by
  rw [pixelLit, pixelByte_native hk, pixelBit_native hk]

end
end

theorem nativeY_pixelByte (ox oy : Nat) : nativeY (pixelByte ox oy) = ox := by
  unfold nativeY pixelByte outH
  omega

theorem outRow_nativeX_pixel (ox : Nat) {oy : Nat} (hy : oy < outH) :
    outH - 1 - nativeX (pixelByte ox oy) (pixelBit oy) = oy := by
  unfold nativeX pixelByte pixelBit outH at *
  omega

theorem pixelBit_lt (oy : Nat) : pixelBit oy < 8 := Nat.mod_lt _ (by decide)

/-- Settles O49: each of the two maps lands in the other's domain and undoes it. -/
theorem pixelMapIsBijection : Obligations.PixelMapIsBijection := by
  refine fun w => ⟨fun i k hi hk => ?_, fun ox oy hx hy => ?_⟩
  · exact ⟨nativeY_lt hi, nativeX_lt hk, pixelByte_native hk, pixelBit_native hk⟩
  · have hbyte : pixelByte ox oy < w * 32 := pixelByte_lt (p := { referenceParams with outW := w }) hx oy
    exact ⟨rfl, rfl, hbyte, pixelBit_lt oy, nativeY_pixelByte ox oy, outRow_nativeX_pixel ox hy⟩

section
variable {p : Params} {m : Memory}

/-- The frame's element at a pixel's place in it (10_state.md R41). -/
theorem decodeFrame_pixel {ox oy : Nat} (hx : ox < p.outW) (hy : oy < outH) :
    (decodeFrame p m)[oy * p.outW + ox]? = some (colour p ox oy (pixelLit p m ox oy)) := by
  have hin : oy * p.outW + ox < p.outW * outH := by
    calc oy * p.outW + ox < (oy + 1) * p.outW := by rw [Nat.succ_mul]; exact Nat.add_lt_add_left hx _
      _ ≤ p.outW * outH := by rw [Nat.mul_comm p.outW]; exact Nat.mul_le_mul_right _ hy
  have hcolumn : (oy * p.outW + ox) % p.outW = ox := Nat.mul_add_mod_of_lt hx
  have hrow : (oy * p.outW + ox) / p.outW = oy := by
    rw [Nat.mul_comm, Nat.mul_add_div (Nat.zero_lt_of_lt hx), Nat.div_eq_of_lt hx, Nat.add_zero]
  simp [decodeFrame, List.getElem?_range hin, hcolumn, hrow]

/-- Every element of the frame is the colour of a pixel of the frame. -/
theorem colour_of_mem_decodeFrame {c : Colour} (hc : c ∈ decodeFrame p m) :
    ∃ ox oy, ox < p.outW ∧ c = colour p ox oy (pixelLit p m ox oy) := by
  obtain ⟨n, hn, rfl⟩ := List.mem_map.1 hc
  exact ⟨_, _, pixel_column_lt (List.mem_range.1 hn), rfl⟩

end

/-- The place in the framebuffer of bit `k` of window byte `i`, which `plotBit` writes (R182, 10_state.md R41). -/
def bitPlace (w i k : Nat) : Nat := (outH - 1 - nativeX i k) * w + nativeY i

/-- Every place in the frame is that of a window bit (R183). -/
theorem exists_bitPlace {p : Params} {n : Nat} (hn : n < p.outW * outH) :
    ∃ i k, i < p.vramSize ∧ k < 8 ∧ bitPlace p.outW i k = n := by
  have hrow : n / p.outW < outH := Nat.div_lt_of_lt_mul hn
  refine ⟨_, _, pixelByte_lt (pixel_column_lt hn) (n / p.outW), pixelBit_lt (n / p.outW), ?_⟩
  rw [bitPlace, outRow_nativeX_pixel _ hrow, nativeY_pixelByte]
  exact Nat.div_add_mod' n p.outW

/-- The frame's element at a window bit's place shows that bit. -/
theorem decodeFrame_bitPlace {p : Params} (m : Memory) {i k : Nat} (hi : i < p.vramSize) (hk : k < 8) :
    (decodeFrame p m)[bitPlace p.outW i k]? =
      some (colour p (nativeY i) (outH - 1 - nativeX i k) ((windowByte p m i).getLsbD k)) := by
  rw [← pixelLit_native hk]
  exact decodeFrame_pixel (nativeY_lt hi) (Nat.sub_lt_of_lt (by decide))

/-- Settles O50: the place of a window bit and its colour, with R181's map written out. -/
theorem decodedPixel : Obligations.DecodedPixel := fun p m =>
  ⟨length_decodeFrame p m, fun _ _ => decodeFrame_bitPlace m⟩

end Sys2Proof.Machine
end

section
/-! R186's two loops over an old framebuffer: each plot leaves the decoded frame's pixel at its place and disturbs no place
that is right already, and every place is plotted. -/

namespace Sys2Proof.Machine

/-- What one step of a fold brings about and every step keeps holds after the fold. -/
theorem foldl_of_mem {α β : Type} {P : β → Prop} {f : β → α → β} {l : List α} {a : α} (ha : a ∈ l)
    (hmake : ∀ b, P (f b a)) (hkeep : ∀ b, P b → ∀ x ∈ l, P (f b x)) (b : β) : P (l.foldl f b) := by
  obtain ⟨before, after, rfl⟩ := List.append_of_mem ha
  rw [List.foldl_append, List.foldl_cons]
  exact List.foldlRecOn after f (hmake _) fun b hb x hx => hkeep b hb x (by simp [hx])

/-- `fb` holds the decoded frame's pixel at place `n`, where it has a place `n` at all. -/
def ShowsFrameAt (p : Params) (m : Memory) (n : Nat) (fb : List Colour) : Prop :=
  ∀ c, fb[n]? = some c → (decodeFrame p m)[n]? = some c

/-- A framebuffer of the frame's size that is right at every place is the frame. -/
theorem eq_decodeFrame_of_showsFrameAt {p : Params} {m : Memory} {fb : List Colour} (hlen : fb.length = p.outW * outH)
    (h : ∀ n < p.outW * outH, ShowsFrameAt p m n fb) : fb = decodeFrame p m := by
  have hsame : fb.length = (decodeFrame p m).length := hlen.trans (length_decodeFrame p m).symm
  refine List.ext_getElem hsame fun n hn hn' => ?_
  have hshown := h n (hlen ▸ hn) _ (List.getElem?_eq_getElem hn)
  exact ((List.getElem_eq_iff hn').2 hshown).symm

section
variable (p : Params) (m : Memory)

/-- One plot is one write of the framebuffer, at the bit's place. -/
theorem plotBit_eq_set (i k : Nat) (fb : List Colour) : plotBit p m i fb k =
    fb.set (bitPlace p.outW i k) (colour p (nativeY i) (outH - 1 - nativeX i k) ((windowByte p m i).getLsbD k)) := rfl

@[simp] theorem length_plotBit (i k : Nat) (fb : List Colour) : (plotBit p m i fb k).length = fb.length :=
  List.length_set

@[simp] theorem length_decodeLoop (fb : List Colour) : (decodeLoop p m fb).length = fb.length := by
  refine List.foldlRecOn (motive := fun b : List Colour => b.length = fb.length) _ _ rfl fun b hb i _ => ?_
  refine List.foldlRecOn (motive := fun b : List Colour => b.length = fb.length) _ _ hb fun b hb k _ => ?_
  exact (length_plotBit p m i k b).trans hb

end

section
variable {p : Params} {m : Memory} {i k : Nat} (hi : i < p.vramSize)
include hi

theorem plotBit_shows (hk : k < 8) (fb : List Colour) : ShowsFrameAt p m (bitPlace p.outW i k) (plotBit p m i fb k) := by
  intro c hc
  rw [plotBit_eq_set] at hc
  obtain ⟨-, -, rfl⟩ := Option.map_eq_some_iff.1 (List.getElem?_set_self'.symm.trans hc)
  exact decodeFrame_bitPlace m hi hk

theorem plotBit_keeps (hk : k < 8) {n : Nat} {fb : List Colour} (h : ShowsFrameAt p m n fb) :
    ShowsFrameAt p m n (plotBit p m i fb k) := by
  by_cases hn : bitPlace p.outW i k = n
  · exact hn ▸ plotBit_shows hi hk fb
  · rw [plotBit_eq_set, ShowsFrameAt, List.getElem?_set_ne hn]
    exact h

/-- The plots of one window byte keep what is right. -/
theorem plotByte_keeps {n : Nat} {fb : List Colour} (h : ShowsFrameAt p m n fb) :
    ShowsFrameAt p m n ((List.range 8).foldl (plotBit p m i) fb) :=
  List.foldlRecOn _ _ h fun _ hb _ hk => plotBit_keeps hi (List.mem_range.1 hk) hb

/-- The plots of one window byte make the place of each of its bits right. -/
theorem plotByte_shows (hk : k < 8) (fb : List Colour) :
    ShowsFrameAt p m (bitPlace p.outW i k) ((List.range 8).foldl (plotBit p m i) fb) :=
  foldl_of_mem (List.mem_range.2 hk) (plotBit_shows hi hk)
    (fun _ hb _ hx => plotBit_keeps hi (List.mem_range.1 hx) hb) fb

end

/-- The two loops make every place of the frame right, whatever was there before. -/
theorem decodeLoop_shows {p : Params} (m : Memory) {n : Nat} (hn : n < p.outW * outH) (old : List Colour) :
    ShowsFrameAt p m n (decodeLoop p m old) := by
  obtain ⟨i, k, hi, hk, rfl⟩ := exists_bitPlace hn
  exact foldl_of_mem (List.mem_range.2 hi) (plotByte_shows hi hk)
    (fun _ hb _ hx => plotByte_keeps (List.mem_range.1 hx) hb) old

/-- Settles O51: the loops keep the size of the framebuffer and make each of its places right. -/
theorem decodeLoopEqualsFrame : Obligations.DecodeLoopEqualsFrame := fun p m old hold =>
  eq_decodeFrame_of_showsFrameAt ((length_decodeLoop p m old).trans hold) fun _ hn => decodeLoop_shows m hn old

end Sys2Proof.Machine
end

section
/-! The colours of the frame (44_video_decoder.md R184, R185, R188) and what the published frame depends on (R190). -/

namespace Sys2Proof.Machine

@[simp] theorem colour_unlit (p : Params) (ox oy : Nat) : colour p ox oy false = .black := rfl

/-- R184's zones in output coordinates: with `x = 255 - oy`, `x ≤ n` is `255 ≤ oy + n`, and `n ≤ x` is `oy + n ≤ 255`. -/
theorem colour_lit (p : Params) (ox : Nat) {oy : Nat} (hy : oy < 256) :
    colour p ox oy true =
      if 255 ≤ oy + p.greenXHi then
        if 255 ≤ oy + p.edgeXHi ∧ ¬ (p.edgeYLo ≤ ox ∧ ox ≤ p.edgeYHi) then .white else .green
      else if oy + p.redXLo ≤ 255 ∧ 255 ≤ oy + p.redXHi then .red
      else .white := by
  have hle (n : Nat) : outH - 1 - oy ≤ n ↔ 255 ≤ oy + n := Nat.sub_le_iff_le_add'
  have hge (n : Nat) : n ≤ outH - 1 - oy ↔ oy + n ≤ 255 := Nat.le_sub_iff_add_le' (Nat.le_of_lt_succ hy)
  simp only [colour, hle, hge, Bool.true_eq_false, if_false]

/-- Settles O58: a lit pixel lies outside the edge's columns, elsewhere in the green band, in the red strip, or in none of
them. -/
theorem colourByPlace : Obligations.ColourByPlace := by
  rintro p ox oy lit hp - hy
  have hedge := hp.edge_in_green
  have hred := hp.green_then_red
  cases lit with
  | false => simp
  | true =>
    rw [colour_lit p ox hy]
    split_ifs with hgreen hout hstrip
    all_goals
      simp
      omega

/-- Settles O52: the reference zones meet their constraints, so O58 gives each row of the table. -/
theorem referenceColourZones : Obligations.ReferenceColourZones := by
  intro ox oy hx hy
  obtain ⟨-, hgreen, hred, hwhite⟩ := colourByPlace referenceParams ox oy true referenceParams_wf hx hy
  simp only [referenceParams, true_and] at hgreen hred hwhite
  refine ⟨colour_unlit _ ox oy, ?_⟩
  split_ifs with h31 h51 h191 h239 hcolumns
  · exact hwhite.2 (by omega)
  · exact hred.2 (by omega)
  · exact hwhite.2 (by omega)
  · exact hgreen.2 (by omega)
  · exact hgreen.2 (by omega)
  · exact hwhite.2 (by omega)

theorem pixelLit_eq_false {p : Params} {m : Memory} (hzero : ∀ i < p.vramSize, Memory.read m (p.vramBase + i) = 0)
    {ox : Nat} (hx : ox < p.outW) (oy : Nat) : pixelLit p m ox oy = false := by
  rw [pixelLit, windowByte, hzero _ (pixelByte_lt hx oy)]
  exact BitVec.getLsbD_zero

/-- Settles O53: no pixel is lit. -/
theorem allZeroWindowIsBlack : Obligations.AllZeroWindowIsBlack := by
  intro p m hzero
  refine List.eq_replicate_iff.2 ⟨length_decodeFrame p m, fun c hc => ?_⟩
  obtain ⟨ox, oy, hx, rfl⟩ := colour_of_mem_decodeFrame hc
  rw [pixelLit_eq_false hzero hx, colour_unlit]

/-- A step from `Decode` decodes and publishes (40_frame_scheduler.md R106). -/
theorem eq_decodeAndPublish_of_step {s t : State} (hph : s.phase = .decode) (hs : step s = .next t) :
    t = s.decodeAndPublish :=
  Host.Outcome.next.inj (hs.symm.trans (step_of_decode (step_cases hs).1 hph))

/-- Settles O54: both steps decode one window with one set of parameters. -/
theorem frameShowsWindowOnly : Obligations.FrameShowsWindowOnly := by
  intro s1 s2 t1 t2 hph1 hph2 hparams hwindow hs1 hs2
  obtain rfl := eq_decodeAndPublish_of_step hph1 hs1
  obtain rfl := eq_decodeAndPublish_of_step hph2 hs2
  have hframe : decodeFrame s1.params s1.mem = decodeFrame s2.params s2.mem :=
    hparams ▸ decodeFrame_congr hwindow
  refine ⟨hframe, _, s1.decodeAndPublish_trace, ?_⟩
  rw [hframe, hparams]
  exact s2.decodeAndPublish_trace

end Sys2Proof.Machine
end

section
/-! The input mapper (45_input_mapper.md R201, R202): the entries apply in list order, so the last one for a bit decides
it. -/

namespace Sys2Proof.Machine

/-- The entry that decides bit `b` of the byte of `port`: the last of the list that names it (R202). -/
def decidingEntry (port : SwitchPort) (b : Fin 8) (bindings : List Binding) : Option Binding :=
  (bindings.filter fun e => e.port = port ∧ e.bit = b).getLast?

/-- An entry appended to the list decides the bit it names, and leaves every other bit to the entries before it. -/
theorem decidingEntry_concat (port : SwitchPort) (b : Fin 8) (bindings : List Binding) (e : Binding) :
    decidingEntry port b (bindings ++ [e]) =
      if e.port = port ∧ e.bit = b then some e else decidingEntry port b bindings := by
  unfold decidingEntry
  rw [List.filter_append]
  split_ifs with hnames
  · rw [List.filter_cons_of_pos (by simpa using hnames), List.filter_nil, List.getLast?_concat]
  · rw [List.filter_cons_of_neg (by simpa using hnames), List.filter_nil, List.append_nil]

theorem applyBindings_concat (held : Key → Bool) (bindings : List Binding) (e : Binding) (sw : Byte × Byte) :
    applyBindings held (bindings ++ [e]) sw = applyBinding held (applyBindings held bindings sw) e :=
  List.foldl_concat ..

/-- A binding to a bit drives it to the state of its key. -/
theorem getLsbD_applyBinding_of_eq {port : SwitchPort} {b : Fin 8} {e : Binding} (h : e.port = port ∧ e.bit = b)
    (held : Key → Bool) (sw : Byte × Byte) :
    (switchByte port (applyBinding held sw e)).getLsbD b.val = held e.key := by
  rw [switchByte_applyBinding, if_pos h.1, getLsbD_driveBit, if_pos h.2.symm]

/-- A poll drives a bit by its deciding entry, and keeps a bit that has none. -/
theorem getLsbD_applyBindings (held : Key → Bool) (bindings : List Binding) (sw : Byte × Byte) (port : SwitchPort)
    (b : Fin 8) :
    (switchByte port (applyBindings held bindings sw)).getLsbD b.val =
      match decidingEntry port b bindings with
      | some e => held e.key
      | none => (switchByte port sw).getLsbD b.val := by
  induction bindings using List.reverseRec with
  | nil => rfl
  | append_singleton earlier e ih =>
    rw [applyBindings_concat, decidingEntry_concat]
    split_ifs with hnames
    · exact getLsbD_applyBinding_of_eq hnames held _
    · exact (getLsbD_applyBinding_of_ne hnames held _).trans ih

/-- Settles O48: each port's byte, bit by bit. -/
theorem pollDrivesBoundBits : Obligations.PollDrivesBoundBits := fun held bindings sw b =>
  ⟨getLsbD_applyBindings held bindings sw .port1 b, getLsbD_applyBindings held bindings sw .port2 b⟩

end Sys2Proof.Machine
end

section
/-! The end of a run (60_exceptions.md R220, R238, R241): a step goes on, raises a fatal fault in a burst, or exits at a poll;
and what has ended takes no step. -/

namespace Sys2Proof.Machine

/-! Which steps answer (R238). -/

theorem step_of_exited {s : State} {code : Nat} (h : s.status = .exited code) : step s = .fault (.runExited code) := by
  simp only [step, State.transition, h]

theorem step_of_faulted {s : State} {info : FatalInfo} (h : s.status = .faulted info) :
    step s = .fault (.runFaulted info) := by
  simp only [step, State.transition, h]

/-- A burst below its threshold answers with its iteration. -/
theorem step_answers_belowThreshold {s : State} (hrun : s.status = .running)
    (h : s.phase = .burst1 ∧ s.cyc < s.params.half ∨ s.phase = .burst2 ∧ s.cyc < s.params.frameCycles) :
    ∃ t, step s = .next t := by
  obtain ⟨t, hb, -⟩ := burstIteration_counts s
  exact ⟨t, (step_of_belowThreshold hrun h).trans hb⟩

/-- A running machine's step answers, in every phase (40_frame_scheduler.md R101). -/
theorem step_answers {s : State} (hrun : s.status = .running) : ∃ t, step s = .next t := by
  cases hph : s.phase with
  | burst1 =>
    rcases Nat.lt_or_ge s.cyc s.params.half with hcyc | hcyc
    · exact step_answers_belowThreshold hrun (.inl ⟨hph, hcyc⟩)
    · exact ⟨_, step_of_burst1_end hrun hph hcyc⟩
  | deliver => exact ⟨_, step_of_deliver hrun hph⟩
  | burst2 =>
    rcases Nat.lt_or_ge s.cyc s.params.frameCycles with hcyc | hcyc
    · exact step_answers_belowThreshold hrun (.inr ⟨hph, hcyc⟩)
    · exact ⟨_, step_of_burst2_end hrun hph hcyc⟩
  | decode => exact ⟨_, step_of_decode hrun hph⟩
  | poll => exact ⟨_, step_of_poll hrun hph⟩

/-- Settles O32: the transition looks at the status first, and a running machine has one in every phase. -/
theorem terminalStatusStops : Obligations.TerminalStatusStops := fun _ =>
  ⟨fun _ => step_of_exited, fun _ => step_of_faulted, step_answers⟩

/-! How a step may end the run. -/

/-- From `s` to `t` the run goes on: the status is kept, and no terminal event is emitted. -/
structure State.GoesOn (s t : State) : Prop where
  status : t.status = s.status
  trace  : ∃ new, t.trace = s.trace ++ new ∧ ∀ e ∈ new, e.terminal = false

section
variable {s t : State}

theorem State.GoesOn.of_trace_eq (hstatus : t.status = s.status) (htrace : t.trace = s.trace) : s.GoesOn t :=
  ⟨hstatus, [], by simp [htrace], by simp⟩

/-- An instruction goes on, or is the fatal fault and nothing else (R220). -/
theorem exec_goesOn_or_raises {i : Instr} (he : exec i s = .next t) : s.GoesOn t ∨ ∃ info, t = s.raiseFatal info := by
  rcases exec_cases he with ⟨v, u, hr, rfl⟩ | ⟨u, hw, rfl⟩ | hfatal
  · exact .inl (.of_trace_eq (by simp [portRead_status hr]) (by simp [portRead_trace hr]))
  · have hstatus : u.stepPort.status = s.status := by simp [portWrite_status hw]
    rcases portWrite_trace hw with htrace | ⟨b, htrace⟩
    · exact .inl (.of_trace_eq hstatus (by simp [htrace]))
    · refine .inl ⟨hstatus, _, by rw [State.stepPort_trace, htrace], fun e he => ?_⟩
      obtain ⟨k, -, rfl, -⟩ := bankPlays_samples he
      rfl
  · exact .inr hfatal

theorem burstIteration_goesOn_or_raises (hb : s.burstIteration exec = .next t) :
    s.GoesOn t ∨ ∃ info, t = s.raiseFatal info := by
  rcases burstIteration_cases hb with ⟨i, -, he⟩ | ⟨-, rfl⟩
  · exact exec_goesOn_or_raises he
  · exact .inl (.of_trace_eq s.stepOther_status s.stepOther_trace)

/-- A poll goes on, or exits with code 0 (R241). -/
theorem poll_goesOn_or_exits (s : State) :
    s.GoesOn s.poll ∨ (s.poll.status = .exited 0 ∧ s.poll.trace = s.trace ++ [.exit 0]) := by
  rcases poll_cases s with ⟨-, hp⟩ | ⟨-, hp⟩ <;> rw [hp]
  · exact .inr ⟨rfl, rfl⟩
  · exact .inl (.of_trace_eq rfl rfl)

/-- A step goes on, raises a fatal fault in a burst, or exits at a poll. -/
theorem step_goesOn_or_ends (hs : step s = .next t) :
    s.GoesOn t ∨ ((s.phase = .burst1 ∨ s.phase = .burst2) ∧ ∃ info, t = s.raiseFatal info) ∨
    (s.phase = .poll ∧ t.status = .exited 0 ∧ t.trace = s.trace ++ [.exit 0]) := by
  obtain ⟨-, hcases⟩ := step_cases hs
  rcases hcases with ⟨-, -, rfl⟩ | ⟨hph, -, hb⟩ | ⟨-, rfl⟩ | ⟨-, -, rfl⟩ | ⟨hph, -, hb⟩ | ⟨-, rfl⟩ | ⟨hph, rfl⟩
  · exact .inl (.of_trace_eq rfl rfl)
  · exact (burstIteration_goesOn_or_raises hb).imp_right fun hfatal => .inl ⟨.inl hph, hfatal⟩
  · exact .inl ⟨rfl, [.inject s.vector], rfl, by simp [Event.terminal]⟩
  · exact .inl (.of_trace_eq rfl rfl)
  · exact (burstIteration_goesOn_or_raises hb).imp_right fun hfatal => .inl ⟨.inr hph, hfatal⟩
  · exact .inl ⟨rfl, _, rfl, by simp [Event.terminal]⟩
  · exact (poll_goesOn_or_exits s).imp_right fun hexit => .inr ⟨hph, hexit⟩

/-! The trace's terminal event, for each way a step from a running state may go. -/

theorem State.EndInv.no_terminal (h : s.EndInv) (hrun : s.status = .running) : ∀ e ∈ s.trace, e.terminal = false := by
  unfold State.EndInv at h
  rwa [hrun] at h

theorem State.EndInv.of_running (hrun : t.status = .running) (hquiet : ∀ e ∈ t.trace, e.terminal = false) : t.EndInv := by
  unfold State.EndInv
  rwa [hrun]

theorem State.EndInv.of_exit (hquiet : ∀ e ∈ s.trace, e.terminal = false) (hstatus : t.status = .exited 0)
    (htrace : t.trace = s.trace ++ [.exit 0]) : t.EndInv := by
  unfold State.EndInv
  rw [hstatus]
  exact ⟨rfl, s.trace, htrace, hquiet⟩

theorem State.EndInv.raiseFatal (hquiet : ∀ e ∈ s.trace, e.terminal = false) (info : FatalInfo) :
    (s.raiseFatal info).EndInv :=
  ⟨s.trace, rfl, hquiet⟩

end

/-- Settles O45: a step starts from a running state, whose trace holds no terminal event, and emits one exactly when it ends
the run. -/
theorem terminalEventEndsTrace : Obligations.TerminalEventEndsTrace := by
  intro s t h hs
  obtain ⟨hrun, -⟩ := step_cases hs
  have hquiet := h.no_terminal hrun
  rcases step_goesOn_or_ends hs with ⟨hstatus, new, htrace, hnew⟩ | ⟨-, info, rfl⟩ | ⟨-, hstatus, htrace⟩
  · refine .of_running (hstatus.trans hrun) ?_
    rw [htrace]
    exact List.forall_mem_append.2 ⟨hquiet, hnew⟩
  · exact .raiseFatal hquiet info
  · exact .of_exit hquiet hstatus htrace

/-- Settles O35: of the ways a step may go, only the fatal fault of a burst ends `Faulted`, and it is `State.raiseFatal`. -/
theorem faultIsPreciseAndTerminal : Obligations.FaultIsPreciseAndTerminal := by
  intro s t info hs hfault
  obtain ⟨hrun, -⟩ := step_cases hs
  rcases step_goesOn_or_ends hs with ⟨hstatus, -⟩ | ⟨hburst, raised, rfl⟩ | ⟨-, hexit, -⟩
  · cases hfault.symm.trans (hstatus.trans hrun)
  · obtain rfl := RunStatus.faulted.inj hfault
    exact ⟨rfl, step_of_faulted hfault, hburst⟩
  · cases hfault.symm.trans hexit

/-! The poll for every answer of the surface (40_frame_scheduler.md R107, 45_input_mapper.md R206). -/

section
variable {held : Key → Bool} {isOpen : Bool}

theorem pollWith_of_exit {s : State} (h : held s.params.exitKey = true ∨ isOpen = false) :
    s.pollWith held isOpen = (({ s with draws := s.draws + 1 } : State).pollSwitches held).exitRun :=
  if_pos (by simpa using h)

theorem pollWith_of_goesOn {s : State} (hkey : held s.params.exitKey = false) (hopen : isOpen = true) :
    s.pollWith held isOpen =
      { ({ s with draws := s.draws + 1 } : State).pollSwitches held with phase := .burst1, cyc := 0 } :=
  if_neg (by simp [hkey, hopen])

end

/-- Settles O36: of the ways a step may go, only the poll's ends `Exited`; and the poll tests the exit key and the surface. -/
theorem exitOnlyAtPoll : Obligations.ExitOnlyAtPoll := by
  refine ⟨fun s t hs hph code hexit => ?_, fun s hrun hph => step_of_poll hrun hph,
    fun s held isOpen hrun => ⟨fun hends => ?_, fun hkey hopen => ?_⟩⟩
  · obtain ⟨hrun, -⟩ := step_cases hs
    rcases step_goesOn_or_ends hs with ⟨hstatus, -⟩ | ⟨-, info, rfl⟩ | ⟨hpoll, -⟩
    · cases hexit.symm.trans (hstatus.trans hrun)
    · cases hexit
    · exact hph hpoll
  · rw [pollWith_of_exit hends]
    exact ⟨rfl, rfl⟩
  · rw [pollWith_of_goesOn hkey hopen]
    exact ⟨hrun, rfl, rfl, rfl⟩

end Sys2Proof.Machine
end

section
/-! Hazards (70_reset_and_hazards.md R253, R258, R259): what the first port instructions after power-up deliver, and an OUT 4
whose intercept repeats before a halted engine. -/

namespace Sys2Proof.Machine

section
variable {s t : State}

/-- A legal IN leaves in A the byte that its port reads (41_port_bank.md R120, R121). -/
theorem a_of_in {port v : Byte} {u : State} (hr : s.portRead port = some (v, u)) (he : exec (decodeIn port) s = .next t) :
    t.a = v := by
  obtain rfl := Host.Outcome.next.inj ((exec_decodeIn s port).symm.trans he)
  rw [State.runIn, hr]
  exact State.stepPort_a _

/-- An OUT leaves A as it was (41_port_bank.md R122). -/
theorem a_of_output {i : Instr} (hout : i.cls = .output) (he : exec i s = .next t) : t.a = s.a := by
  have hnotIn (port : Byte) : ¬ (i.cls = .input ∧ i.port = port) := by simp [hout]
  exact (registerFrame_of_exec he).a (hnotIn 0) (hnotIn 1) (hnotIn 2) (hnotIn 3)

/-- The first write to a bank, with nothing emitted before it and the latch 0, emits just the samples of the mapped bits set
in A (43_audio_trigger.md R160). -/
theorem play_mem_of_first_out {b : Bank} {v : Byte} {k : Nat} (htrace : s.trace = []) (hlatch : s.latch b = 0)
    (hk : b.mask.getLsbD k = true) (he : exec b.out (s.setA v) = .next t) :
    .play (b.base + k) ∈ t.trace ↔ v.getLsbD k = true := by
  obtain ⟨-, hcount⟩ := count_play_of_out hk rfl he
  rw [← List.count_pos_iff, hcount, htrace, hlatch]
  cases v.getLsbD k <;> simp

end

/-- Settles O24: each OUT 4 loads A, and the first leaves A to the second; a halted engine moves no `pc`. -/
theorem haltedEngineRepeatsIntercept : Obligations.HaltedEngineRepeatsIntercept := by
  intro s t u hhalted ht hu
  have ha : t.a = s.a := a_of_output rfl ht
  refine ⟨(engineFrame_of_exec ht).2 hhalted, ha, (portFrame_of_exec ht).mem, ?_⟩
  rw [(shiftRegister_of_out4 hu).1, (shiftRegister_of_out4 ht).1, ha, shiftLoad_shiftLoad]

/-- Settles O3: the reads find the registers' power-up values, and the writes find an empty trace and latches at 0. -/
theorem powerUpPortReads : Obligations.PowerUpPortReads := by
  refine fun p t => ⟨a_of_in (port := 1) rfl, a_of_in (port := 2) rfl, fun he => ?_, fun v he k hk => ?_, fun v he k hk => ?_⟩
  · have hzero : shiftWindow 0 0 = 0 := by decide
    exact (shiftRegister_of_in3 he).1.trans hzero
  · have hmask : ∀ k < 4, Bank.bank1.mask.getLsbD k = true := by decide
    have hplay := play_mem_of_first_out (s := State.powerUp p) (b := .bank1) rfl rfl (hmask k hk) he
    rwa [Bank.base, Nat.zero_add] at hplay
  · have hmask : ∀ k < 5, Bank.bank2.mask.getLsbD k = true := by decide
    exact play_mem_of_first_out (s := State.powerUp p) (b := .bank2) rfl rfl (hmask k hk) he

end Sys2Proof.Machine
end
